-- ==== Sys2Proof/Word.lean ====
section
/-! DEFINITION. The words of the link, the site numbers, and tables of a fixed number of entries.
Rules: 00_scope.md "Conventions" (words of 16 bits, sites 0–31). -/
namespace Sys2Proof

/-- A byte of the link or of a site port. -/
abbrev Byte := BitVec 8

/-- A link word (00_scope.md, "Conventions": 16 bits). -/
abbrev Word := BitVec 16

/-- A DUT site of the head, 0–31. -/
abbrev SiteId := Fin 32

/-- A set of sites, one bit per site (R172: "participant set, sites 16–31 and then 0–15"). -/
abbrev SiteSet := BitVec 32

/-- A table of exactly `n` entries, as plain data: the list of its rows and the proof of their number. -/
structure Table (n : Nat) (α : Type) where
  rows : List α
  size : rows.length = n
  deriving DecidableEq, Repr

/-- The entry at `i`. -/
def Table.get {n : Nat} {α : Type} (t : Table n α) (i : Fin n) : α :=
  t.rows[i.val]'(by rw [t.size]; exact i.isLt)

/-- The table with the entry at `i` replaced. -/
def Table.set {n : Nat} {α : Type} (t : Table n α) (i : Fin n) (a : α) : Table n α :=
  ⟨t.rows.set i.val a, by rw [List.length_set]; exact t.size⟩

/-- The table with `f` applied to the entry at `i`. -/
def Table.modify {n : Nat} {α : Type} (t : Table n α) (i : Fin n) (f : α → α) : Table n α :=
  t.set i (f (t.get i))

/-- The table with `f` applied to every entry. -/
def Table.map {n : Nat} {α β : Type} (t : Table n α) (f : α → β) : Table n β :=
  ⟨t.rows.map f, by rw [List.length_map]; exact t.size⟩

/-- The table whose entry at `i` is `f i`. -/
def Table.ofFn {n : Nat} {α : Type} (f : Fin n → α) : Table n α :=
  ⟨(List.finRange n).map f, by rw [List.length_map, List.length_finRange]⟩

/-- The table of `n` equal entries. -/
def Table.replicate (n : Nat) {α : Type} (a : α) : Table n α :=
  ⟨List.replicate n a, List.length_replicate⟩

/-- One entry for each site. -/
abbrev PerSite (α : Type) := Table 32 α

/-- The site numbers in ascending order. -/
def allSites : List SiteId := List.finRange 32

/-- Whether the set holds the site. -/
def SiteSet.has (x : SiteSet) (i : SiteId) : Bool := x.getLsbD i.val

/-- The set without the site. -/
def SiteSet.without (x : SiteSet) (i : SiteId) : SiteSet := x &&& ~~~(BitVec.twoPow 32 i.val)

/-- The set of the sites that satisfy `p`. -/
def SiteSet.ofPred (p : SiteId → Bool) : SiteSet := BitVec.ofFnLE p

/-- A number as a link word (its low 16 bits). -/
def toWord (n : Nat) : Word := BitVec.ofNat 16 n

/-- A number as a byte (its low 8 bits). -/
def toByte (n : Nat) : Byte := BitVec.ofNat 8 n

end Sys2Proof
end

