-- ==== Sys2Proof/Syntax.lean ====
section
/-! DEFINITION. The commands of the block: one constructor per row of spec/opcode_table.json. -/
namespace Sys2Proof

/-- The commands. The requests of the link (START to UNKNOWN_REQUEST_FRAME) stand for the completion of a frame
that carries them (R163, R164); the others are events at the part's pins, ports, lines and timers. -/
inductive Instr where
  /-- START: CONTROL with command 0 (R10, R168). -/
  | start
  /-- PAUSE: CONTROL with command 1 (R19, R168). -/
  | pause
  /-- STEP: CONTROL with command 2 (R20, R168). -/
  | stepRun
  /-- RESUME: CONTROL with command 3 (R21, R168). -/
  | resume
  /-- ABORT: CONTROL with command 4 (R22, R168). -/
  | abort
  /-- STOP_ALL: CONTROL with command 5 (R23, R168). -/
  | stopAll
  /-- CLEAR_RESULTS: CONTROL with command 6 (R24, R168). -/
  | clearResults
  /-- RESET: CONTROL with command 7 (R24, R168). -/
  | reset
  /-- RESPONSE_END: the last byte of a response has been sent (R163). -/
  | responseEnd
  /-- SETUP_WRITE: a WRITE to SETUP at a word index (R171). -/
  | setupWrite (index : Word) (words : List Word)
  /-- SITE_CFG_WRITE: a WRITE to SITE_CFG at a word index (R89). -/
  | siteCfgWrite (index : Word) (words : List Word)
  /-- PRELOAD: a WRITE to a site's BADLIST section at a first position (R102). -/
  | preload (site : SiteId) (position : Fin 64) (words : List Word)
  /-- TRUNCATION: a WRITE to the BADLIST count part from a site's count word on (R104). -/
  | truncation (site : SiteId) (words : List Word)
  /-- WRITE: a WRITE frame that names an area by its code (R165). -/
  | write (area : BitVec 4) (index : Word) (words : List Word)
  /-- DRAIN: a ring and a count 1–256 (R150). -/
  | drain (ring : Word) (count : Nat)
  /-- ENLIST: a payload value, 0 for no and 1 for yes (R128). -/
  | enlist (value : Word)
  /-- ACK: the causes to clear (R170). -/
  | ack (causes : Word)
  /-- PROBE (R169). -/
  | probe
  /-- POWER_ON_RESET: power-on reset or the reset input, with the value of the four straps (R127, R141). -/
  | powerOnReset (straps : BitVec 4)
  /-- ELIGIBLE_INTERVAL: an interval between two falling edges, in ticks of 10 MHz (R160). -/
  | eligibleInterval (ticks : Nat)
  /-- LINE_IDLE_TIMEOUT: the receive line has stayed high for 2500 µs (R160). -/
  | lineIdleTimeout
  /-- SETTLING_END: the line has stayed high for 10 learned bit periods (R160). -/
  | settlingEnd
  /-- BREAK: the line held low for more than 20 learned bit periods (R161). -/
  | lineBreak
  /-- FRAMING_ERROR: a byte whose stop bit samples low (R162). -/
  | framingError
  /-- FRAME_GAP_TIMEOUT: a gap of more than 1000 µs (R163). -/
  | frameGapTimeout
  /-- BARRIER_PASS: the rise of the mark line waited on; `peerVeto` says whether another station pulls the veto
  line of the barrier's parity at the rise (R132). -/
  | barrierPass (peerVeto : Bool)
  /-- ISSUE: a port reports that the round's transaction has been sent (R44). -/
  | issue (site : SiteId)
  /-- POLL_TIMER_EXPIRY (R45). -/
  | pollTimerExpiry (site : SiteId)
  /-- STATUS_RESULT: a status byte arrives (R45). -/
  | statusResult (site : SiteId) (status : Byte)
  /-- DEADLINE_EXPIRY (R48). -/
  | deadlineExpiry (site : SiteId)
  /-- DATA_PART_END: the last byte of a READ data part has been tallied (R51). -/
  | dataPartEnd (site : SiteId)
  /-- DISCARDED_TRANSACTION_END (R41). -/
  | discardedTransactionEnd (site : SiteId)
  /-- RENDEZVOUS_TIMEOUT: the rendezvous timer reaches the Setup timeout (R134). -/
  | rendezvousTimeout
  /-- STOP_FALL: another station's pull on STOP (R137). -/
  | stopFall
  /-- STOP_RISE: no other station pulls STOP any more (R137). -/
  | stopRise
  /-- BYTE_TAKEN: a byte whose stop bit samples high (R163). -/
  | byteTaken (byte : Byte)
  /-- SETTLING_EDGE: a falling edge of the receive line (R160). -/
  | settlingEdge
  /-- READ_BYTE: a byte of a READ data part arrives from the die (R65). -/
  | readByte (site : SiteId) (byte : Byte)
  /-- UNKNOWN_REQUEST_FRAME: a frame whose kind names no request, or a CONTROL whose command names none (R164). -/
  | unknownRequestFrame
  deriving DecidableEq, Repr

end Sys2Proof
end

