-- ==== Sys2Proof/Decode.lean ====
section
/-! DEFINITION. The words of the table's rows. No row of spec/opcode_table.json gives bits (each has an empty
"fields" and no "fixed"), so no word spells a command; the frames of the link are taken byte by byte
(Machine/LinkEvents.lean, R163). -/
namespace Sys2Proof

/-- The command that a word of `nbits` bits spells by the bits of the table: none, since no row gives bits. -/
def decodeTableWord (_nbits _w : Nat) : Option Instr := none

end Sys2Proof
end

