-- ==== Sys2Proof/Config.lean ====
section
/-! DEFINITION. What the spec leaves open as a value (free values, without a body) and the one bound the model fixes. -/
namespace Sys2Proof

/-- FREE VALUE (log entries 13 and 14). What the part shows in the bits of a link word whose contents the spec
leaves open: the `count`-th READ, the word at place `place`. The spec says of an absent field that "its contents
are then to be disregarded" (00_scope.md), and leaves the levels of the other stations' lines to the moment of the
READ (R143). Nothing constrains it. -/
opaque Config.freeWord (count place : Nat) : Word

/-- FREE VALUE (log entry 28). Whether the receive line counts as high in a µs in which the receiver holds off after a
framing error: the `count`-th free value. The level is the test computer's, and no command of the table reports it there
(R162). Nothing constrains it. -/
opaque Config.lineIsHigh (count : Nat) : Bool

/-- DESIGN CHOICE (log entry 8). The most pieces of internal work one command may set going before the command
ends and the next one goes on with the work. No plan that START has accepted comes near it. -/
def Config.settleBound : Nat := 2 ^ 64

end Sys2Proof
end

