-- ==== Sys2Proof/Machine/State.lean ====
section
/-! DEFINITION. The state of the controller as plain data: every block's record, as the chapters of spec/ give them,
and State.reset, the state right after power-on reset. -/
namespace Sys2Proof.Machine

/-! ## Names of chapter 1 -/

/-- The runner states (section 1.5). -/
inductive RunState where
  | idle | atMark | running | paused | logStall | halting | halted | done
  deriving DecidableEq, Repr

/-- The causes of a halt and of a stop in force (section 1.4). -/
inductive HaltCause where
  | hostStop | peerStop | ownCondition | ownFilter | ownTimeout
  deriving DecidableEq, Repr

/-- The reasons of a plan-check refusal, in the order of the tests (R7, R8). -/
inductive CheckReason where
  | badKind | badRange | badSpan | spanOverlap | bodyKind
  deriving DecidableEq, Repr

/-- The operations of a SWEEP step (R3). -/
inductive SweepOp where
  | erase | program | verify | programVerify
  deriving DecidableEq, Repr

/-- The patterns of a SWEEP step (R3). -/
inductive Pattern where
  | solid | checker | address | random
  deriving DecidableEq, Repr

/-- A block order or a page order (R3). -/
inductive Direction where
  | up | down
  deriving DecidableEq, Repr

/-- The major order of a sweep (R3). -/
inductive Major where
  | blockMajor | pageMajor
  deriving DecidableEq, Repr

/-- The polarity of a search (R5). -/
inductive Polarity where
  | ascending | descending
  deriving DecidableEq, Repr

/-- The scope of a search (R5). -/
inductive Scope where
  | site | mainframe
  deriving DecidableEq, Repr

/-- The source of a TRIM step's values (R4). -/
inductive TrimSource where
  | fixed (value : Byte)
  | site
  deriving DecidableEq, Repr

/-- A set of conditions, one bit per condition in the order DATA_FAIL, PAGE_FAIL, OP_FAIL, READY_TIMEOUT,
BAD_LIMIT, SEARCH_OPEN, FILTER_STOP (R172). -/
abbrev CondSet := BitVec 7

/-- The seven conditions (R75). -/
inductive Condition where
  | dataFail | pageFail | opFail | readyTimeout | badLimit | searchOpen | filterStop
  deriving DecidableEq, Repr

/-- The fields of a SWEEP step (R3). -/
structure SweepFields where
  op : SweepOp
  firstBlock : Nat
  lastBlock : Nat
  firstPage : Nat
  lastPage : Nat
  blockOrder : Direction
  pageOrder : Direction
  major : Major
  pattern : Pattern
  background : Nat
  invert : Bool
  careMask : Byte
  seed : Nat
  visitListed : Bool
  deriving DecidableEq, Repr

/-- The fields of a SEARCH step (R5). -/
structure SearchFields where
  address : Byte
  bits : Nat
  polarity : Polarity
  scope : Scope
  body : Nat
  failSet : CondSet
  margin : Int
  logTrials : Bool
  deriving DecidableEq, Repr

/-- The kind of a step with that kind's fields (R2 to R6). -/
inductive StepBody where
  | endStep
  | sweep (f : SweepFields)
  | poll (mask expected : Byte) (count deadline : Nat)
  | trim (address : Byte) (source : TrimSource)
  | search (f : SearchFields)
  | rendezvous
  | repeatStep (span count : Nat)
  | marker
  deriving DecidableEq, Repr

/-- A step record: the common fields and the kind's own (R2). -/
structure PlanStep where
  note : Bool
  label : Nat
  body : StepBody
  deriving DecidableEq, Repr

/-- A record of the Plan Store: 16 link words (R1). -/
abbrev PlanRecord := Table 16 Word

/-- The Plan Store: 256 records (R1). -/
abbrev PlanStore := Table 256 PlanRecord

/-- What asks for a round: the four suppliers of section 3.1, the trial codes and the final trim apart (R110, R119). -/
inductive Ask where
  | sweep | poll | trim | trialCode | finalTrim
  deriving DecidableEq, Repr

/-- Where in its work the runner stands (implied by R11, R12, R16: what it repeats, waits for or goes on with). -/
inductive Point where
  /-- No work at hand. -/
  | rest
  /-- At the boundary before the step at the step index (section 1.6). -/
  | boundary
  /-- Past the boundary: the step at the step index begins (R13). -/
  | begin
  /-- The first body step's own work, after the trial-code round (R110). -/
  | work
  /-- Before a round: the headroom test of R12 comes first. -/
  | ask (a : Ask)
  /-- The round asked for is in flight. -/
  | inRound (a : Ask)
  /-- Before the close of a trial: the headroom test of R12 comes first (R112). -/
  | close
  /-- Handing out the results of a search, one site at a time (R118); with the cause of a stop that was reported
  meanwhile, which is taken when every site's handling is done (R121). -/
  | handOut (held : Option HaltCause)
  /-- At a barrier (R16). -/
  | mark
  deriving DecidableEq, Repr

/-- The repeat context (R15). -/
structure RepeatContext where
  index : Nat
  passes : Nat
  deriving DecidableEq, Repr

/-- The last plan-check refusal (R7). -/
structure Refused where
  reason : CheckReason
  step : Nat
  deriving DecidableEq, Repr

/-- The runner record (section 1.4, R9) and where the runner stands in its work. -/
structure Runner where
  state : RunState
  stepIndex : Nat
  repeatContext : Option RepeatContext
  pendingPause : Bool
  singleStep : Bool
  haltCause : Option HaltCause
  roundInFlight : Bool
  lastRefusal : Option Refused
  point : Point
  deriving DecidableEq, Repr

/-! ## Chapters 2 and 3 -/

/-- The kind of a page round (section 2.1). -/
inductive PageKind where
  | erase | program | read
  deriving DecidableEq, Repr

/-- A place of a sweep: round kind, block, and page, which an ERASE round does not have (section 2.1). -/
structure Position where
  kind : PageKind
  block : Nat
  page : Option Nat
  deriving DecidableEq, Repr

/-- The sweep context (section 2.1, R26). -/
structure Sweep where
  fields : SweepFields
  position : Option Position
  successor : Option Position
  deriving DecidableEq, Repr

/-- The kind of a round with what the kind carries (section 3.1, R40). -/
inductive RoundWork where
  | page (at_ : Position) (precondition : Bool)
  | poll (mask expected : Byte) (count deadline : Nat)
  | setparam (address : Byte) (values : PerSite (Option Byte))
  deriving DecidableEq, Repr

/-- The round record (R40). -/
structure Round where
  work : RoundWork
  participants : SiteSet
  trial : Bool
  deriving DecidableEq, Repr

/-- A transaction of a site port (R41, R43). A page transaction is the whole ERASE (with its form) or the command part
of READ; the data part of READ is its own. A PROGRAM carries the bytes that the port writes to the page (R36). -/
inductive Tx where
  | page (at_ : Position) (precondition : Bool)
  | program (at_ : Position) (data : List Byte)
  | readData (at_ : Position)
  | status
  | setparam (address value : Byte)
  deriving DecidableEq, Repr

/-- A transaction in progress at a port, live or discarded (R41). -/
structure Carried where
  tx : Tx
  live : Bool
  deriving DecidableEq, Repr

/-- A site port: idle or busy with one transaction, and what is queued behind it (R41). -/
structure Port where
  current : Option Carried
  queued : Option Tx
  deriving DecidableEq, Repr

/-- A running timer of the timebase, in whole µs (R44). -/
structure Timer where
  limit : Nat
  elapsed : Nat
  deriving DecidableEq, Repr

/-- A participant's poll timer and deadline timer (R40). -/
structure Clocks where
  poll : Option Timer
  deadline : Option Timer
  deriving DecidableEq, Repr

/-! ## Chapters 4 and 5 -/

/-- A tally record (R62). -/
structure Tally where
  block : Nat
  page : Nat
  trialCode : Option Byte
  taken : Nat
  sums : List Nat
  deriving DecidableEq, Repr

/-- The kinds of a page outcome (R67). -/
inductive OutcomeKind where
  | clean | dataFail | pageFail
  deriving DecidableEq, Repr

/-- A page outcome (R67, R68). -/
structure PageOutcome where
  kind : OutcomeKind
  worstIndex : Nat
  worstTally : Nat
  overCount : Nat
  total : Nat
  count : Nat
  deriving DecidableEq, Repr

/-- The site states (R77). -/
inductive SiteState where
  | off | active | waiting | rejected
  deriving DecidableEq, Repr

/-- The round phases of a WAITING site (R75). -/
inductive Phase where
  | awaitReady | awaitData
  deriving DecidableEq, Repr

/-- Reject cause and reject step, present while REJECTED (R75, R82). -/
structure Reject where
  cause : Condition
  step : Nat
  deriving DecidableEq, Repr

/-- A block and a page (R72). -/
structure FirstFail where
  block : Nat
  page : Nat
  deriving DecidableEq, Repr

/-- A site record (R75). The site number is the place in the table; the enabled flag is a view of the state. -/
structure Site where
  state : SiteState
  phase : Option Phase
  runCount : Nat
  current : CondSet
  accrued : CondSet
  reject : Option Reject
  firstFail : Option FirstFail
  failBits : Nat
  failedPages : Nat
  worst : Nat
  trim : Byte
  result : Option Byte
  trialFailed : Bool
  deriving DecidableEq, Repr

/-! ## Chapter 6 -/

/-- The cause of a FOUND entry (R94). -/
inductive ListCause where
  | pageFail | opFail
  deriving DecidableEq, Repr

/-- What a FOUND entry holds besides its block (R94). -/
structure Found where
  cause : ListCause
  step : Nat
  deriving DecidableEq, Repr

/-- An entry of a bad-block list: FOUND with its cause and step, or PRELOADED (R94). -/
structure Entry where
  block : Nat
  found : Option Found
  deriving DecidableEq, Repr

/-! ## Chapter 7 -/

/-- The phases of a search (R107). -/
inductive SearchPhase where
  | body | vote | final
  deriving DecidableEq, Repr

/-- A vote, a verdict or a sampled veto (R107, R126). -/
inductive Verdict where
  | pass | fail
  deriving DecidableEq, Repr

/-- The search context (R107). `codes` keeps, for each site, the code it was last given in this search (R111).
`results` holds the result codes as they were formed, all at once, with none for an absent result, and `outstanding` the
sites whose handling of the result is still to come (R116, R118, R120). -/
structure Search where
  step : Nat
  fields : SearchFields
  members : SiteSet
  trial : Nat
  phase : SearchPhase
  values : PerSite Nat
  stationValue : Nat
  trialSet : SiteSet
  codes : PerSite (Option Nat)
  stationCode : Option Nat
  localVote : Option Verdict
  combined : Option Verdict
  results : PerSite (Option Nat)
  outstanding : SiteSet
  deriving DecidableEq, Repr

/-! ## Chapter 8 -/

/-- The parity of a barrier number (R130). -/
inductive Parity where
  | even | odd
  deriving DecidableEq, Repr

/-- Enlistment on the tie bus (R126). -/
inductive Enlistment where
  | notEnlisted | enlisted | leftOut
  deriving DecidableEq, Repr

/-- The kinds of a barrier (R126). -/
inductive BarrierKind where
  | start | rendezvous | trial
  deriving DecidableEq, Repr

/-- The causes of an own pull on STOP (R136). -/
inductive OwnCause where
  | hostStop | ownCondition | ownFilter | ownTimeout
  deriving DecidableEq, Repr

/-- The wait at a barrier: its kind, the line by its parity (R126), and the µs waited so far (R142). -/
structure Wait where
  kind : BarrierKind
  line : Parity
  waited : Nat
  deriving DecidableEq, Repr

/-- The Tie Port record (R126), whether the stop in force has been reported (R137), and the input `peerStop`:
whether another station pulls STOP (log entry 15). -/
structure Tie where
  station : BitVec 4
  enlistment : Enlistment
  lock : Bool
  barrier : Nat
  wait : Option Wait
  vote : Option Verdict
  sampledVeto : Option Verdict
  heldVeto : Option Parity
  markE : Bool
  markO : Bool
  ownPull : Option OwnCause
  stop : Option HaltCause
  reported : Bool
  timer : Option Nat
  peerStop : Bool
  deriving DecidableEq, Repr

/-! ## Chapter 9 -/

/-- The log modes (R144). -/
inductive LogMode where
  | unified | split
  deriving DecidableEq, Repr

/-- The log policies (R146). -/
inductive LogPolicy where
  | wrap | stall
  deriving DecidableEq, Repr

/-- The actions of a filter (R155). -/
inductive Action where
  | ignore | log | rejectSite | stopAll
  deriving DecidableEq, Repr

/-- The source of a page-fail record (R153). -/
inductive Source where
  | readData | eraseStatus | programStatus | readStatus
  deriving DecidableEq, Repr

/-- The way a run ended (R13). -/
inductive EndWay where
  | endStep | planExhausted
  deriving DecidableEq, Repr

/-- The fields of a page-fail record (R153). -/
structure PageFailRec where
  site : SiteId
  block : Nat
  page : Option Nat
  step : Nat
  source : Source
  outcome : Condition
  figures : Option PageOutcome
  status : Option Byte
  filter : Option Nat
  trialCode : Option Byte
  deriving DecidableEq, Repr

/-- The fields of a MARK_PASSED record (R142). -/
structure MarkPassedRec where
  barrier : Nat
  kind : BarrierKind
  step : Nat
  label : Option Nat
  vote : Option Verdict
  sampled : Verdict
  waited : Nat
  deriving DecidableEq, Repr

/-- The fields of a TRIAL_RESULT record (R115). -/
structure TrialResultRec where
  step : Nat
  site : Option SiteId
  trial : Nat
  code : Nat
  verdict : Verdict
  localVote : Option Verdict
  barrier : Option Nat
  deriving DecidableEq, Repr

/-- The fields of a SEARCH_RESULT record (R118). -/
structure SearchResultRec where
  site : SiteId
  step : Nat
  scope : Scope
  code : Option Nat
  trim : Option Nat
  trials : Nat
  deriving DecidableEq, Repr

/-- The fields of a BLOCK_BAD record (R99). -/
structure BlockBadRec where
  site : SiteId
  block : Nat
  page : Option Nat
  cause : ListCause
  step : Nat
  count : Nat
  deriving DecidableEq, Repr

/-- The fields of a SITE_REJECTED record (R82). -/
structure SiteRejectedRec where
  site : SiteId
  cause : Condition
  step : Nat
  block : Option Nat
  page : Option Nat
  deriving DecidableEq, Repr

/-- A record as the offering block supplies it (R153, R154). -/
inductive RecordBody where
  | pageFail (r : PageFailRec)
  | runStart
  | stepBegin (step label : Nat)
  | markerRec (step label : Nat)
  | markPassed (r : MarkPassedRec)
  | trialResult (r : TrialResultRec)
  | searchResult (r : SearchResultRec)
  | blockBad (r : BlockBadRec)
  | siteRejected (r : SiteRejectedRec)
  | halted (cause : Option HaltCause) (step barrier : Nat)
  | runEnd (step : Nat) (way : EndWay)
  deriving DecidableEq, Repr

/-- A stored record: what the ring supplies, and the offered body (R145). -/
structure LogRecord where
  sequence : Nat
  station : BitVec 4
  body : RecordBody
  deriving DecidableEq, Repr

/-- A ring: the records held, oldest first, the slot of the oldest, and the next sequence (section 9.1). -/
structure Ring where
  records : List LogRecord
  oldest : Nat
  next : Nat
  deriving DecidableEq, Repr

/-- The Result Log (R144, R149). Ring 1 holds nothing while the mode is UNIFIED. -/
structure ResultLog where
  ring0 : Ring
  ring1 : Ring
  frozen : Bool
  deriving DecidableEq, Repr

/-- A capture filter (R155). -/
structure Filter where
  enabled : Bool
  sites : SiteSet
  blockValue : BitVec 12
  blockMask : BitVec 12
  pageValue : BitVec 9
  pageMask : BitVec 9
  minTotal : Nat
  action : Action
  deriving DecidableEq, Repr

/-! ## Setup (R171) and chapter 10 -/

/-- The Setup fields (R171, with R61, R74, R84, R96, R135, R152). -/
structure Setup where
  blocksPerDie : Nat
  pagesPerBlock : Nat
  pageBytes : Nat
  codewordBytes : Nat
  threshold : Nat
  matchCount : Nat
  pollInterval : Nat
  readyMask : Byte
  readyValue : Byte
  failMask : Byte
  readDeadline : Nat
  programDeadline : Nat
  eraseDeadline : Nat
  siteStop : CondSet
  mainframeStop : CondSet
  listLimit : Nat
  rendezvousTimeout : Nat
  markRecord : Bool
  logMode : LogMode
  logPolicy : LogPolicy
  freeze : Bool
  watermark : Nat
  defaultLog : Bool
  enables : BitVec 5
  deriving DecidableEq, Repr

/-- The receiver states (section 10.1). -/
inductive Receiver where
  | unlocked | settling | ready
  deriving DecidableEq, Repr

/-- A response in progress: its bytes, whether a break has cut it (R161), and whether the Link Port's own RESET
follows it (R168). -/
structure Response where
  bytes : List Byte
  cut : Bool
  resetAfter : Bool
  deriving DecidableEq, Repr

/-- The Link Port's own state (R172). The causes are bits 0–4: RUN_ENDED, HALTED, PAUSED, LOG_LEVEL, STALLED (R170).
`lineHigh` counts the µs for which the receive line has rested high in the wait at hand (R160, R163). `holdOff` is
present while the receiver takes no new start bit after a framing error, with the µs for which the line has been high
without a break since (R162; log entry 28). -/
structure Link where
  receiver : Receiver
  learned : Option Nat
  candidate : Option Nat
  agreement : Nat
  frame : List Byte
  response : Option Response
  causes : BitVec 5
  lineHigh : Nat
  holdOff : Option Nat
  deriving DecidableEq, Repr

/-- The state of the controller. `pending` is the queue of the commands that are waiting and `free` the counter of
the free values; both are the model's own. -/
structure State where
  runner : Runner
  plan : PlanStore
  setup : Setup
  filters : Table 4 Filter
  sweep : Option Sweep
  streams : PerSite (Option Word)
  round : Option Round
  clocks : PerSite Clocks
  ports : PerSite Port
  tallies : PerSite (Option Tally)
  sites : PerSite Site
  lists : PerSite (List Entry)
  search : Option Search
  tie : Tie
  log : ResultLog
  link : Link
  free : Nat
  pending : List Instr
  deriving DecidableEq, Repr

/-- Why a step stops with a fault. -/
inductive Fault where
  /-- The term is no command that a frame can carry: a WRITE of no word or of more than 256, or a DRAIN of a count
  outside 1–256. Raised by `exec` of SETUP_WRITE, SITE_CFG_WRITE, PRELOAD, TRUNCATION, WRITE and DRAIN. Safe: such a
  frame cannot reach the part (section 10.2, "n is 1–256"). Log entry 26. -/
  | illFormedCommand
  deriving DecidableEq, Repr

/-- Why a step is refused. -/
inductive Refusal where
  /-- The command has no meaning in this model. Raised by the arms of `exec` that are not modelled; there is none.
  Safe: the machine stops. -/
  | notModelled (mnemonic : String)
  deriving DecidableEq, Repr

/-- What a command answers. -/
abbrev Result := Host.Outcome State Fault Refusal

/-! ## Values after power-on reset -/

/-- The runner record after power-on reset and RESET (R9). -/
def Runner.reset : Runner :=
  { state := .idle, stepIndex := 0, repeatContext := none, pendingPause := false, singleStep := false,
    haltCause := none, roundInFlight := false, lastRefusal := none, point := .rest }

/-- A site record after power-on reset and RESET (R73, R76). -/
def Site.reset : Site :=
  { state := .off, phase := none, runCount := 0, current := 0, accrued := 0, reject := none, firstFail := none,
    failBits := 0, failedPages := 0, worst := 0, trim := 0, result := none, trialFailed := false }

/-- A filter after power-on reset and RESET (R155). -/
def Filter.reset : Filter :=
  { enabled := false, sites := 0, blockValue := 0, blockMask := 0, pageValue := 0, pageMask := 0, minTotal := 0,
    action := .log }

/-- The Setup fields after power-on reset and RESET (R171). -/
def Setup.reset : Setup :=
  { blocksPerDie := 1024, pagesPerBlock := 256, pageBytes := 4096, codewordBytes := 1024, threshold := 40,
    matchCount := 2, pollInterval := 5, readyMask := 128, readyValue := 128, failMask := 1, readDeadline := 200,
    programDeadline := 3000, eraseDeadline := 20000, siteStop := 56, mainframeStop := 0, listLimit := 24,
    rendezvousTimeout := 5000, markRecord := false, logMode := .unified, logPolicy := .wrap, freeze := false,
    watermark := 1536, defaultLog := true, enables := 0 }

/-- A ring that holds nothing (R148, R152). The slot of its oldest record is 0 (DESIGN CHOICE, log entry 25). -/
def Ring.empty : Ring := { records := [], oldest := 0, next := 0 }

/-- The Result Log after power-on reset and RESET (R152). -/
def ResultLog.reset : ResultLog := { ring0 := Ring.empty, ring1 := Ring.empty, frozen := false }

/-- The Link Port's own state after power-on reset (R172). -/
def Link.reset : Link :=
  { receiver := .unlocked, learned := none, candidate := none, agreement := 0, frame := [], response := none,
    causes := 0, lineHigh := 0, holdOff := none }

/-- The Tie Port record after power-on reset with the given straps and STOP input (R126, R127, R141): a stop with
cause PEER_STOP is in force when STOP is sensed low (R137). -/
def Tie.reset (straps : BitVec 4) (peerStop : Bool) : Tie :=
  { station := straps, enlistment := .notEnlisted, lock := false, barrier := 0, wait := none, vote := none,
    sampledVeto := none, heldVeto := none, markE := false, markO := false, ownPull := none,
    stop := if peerStop then some .peerStop else none, reported := peerStop, timer := none, peerStop := peerStop }

/-- An idle port (R41). -/
def Port.idle : Port := { current := none, queued := none }

/-- Stopped timers (R44). -/
def Clocks.stopped : Clocks := { poll := none, deadline := none }

/-- The Plan Store after power-on reset and RESET: every record zero (R1). -/
def PlanStore.zero : PlanStore := Table.replicate 256 (Table.replicate 16 0)

/-- The machine right after power-on reset with straps 0 and STOP high (log entries 15 and 24). -/
def State.reset : State :=
  { runner := Runner.reset
    plan := PlanStore.zero
    setup := Setup.reset
    filters := Table.replicate 4 Filter.reset
    sweep := none
    streams := Table.replicate 32 none
    round := none
    clocks := Table.replicate 32 Clocks.stopped
    ports := Table.replicate 32 Port.idle
    tallies := Table.replicate 32 none
    sites := Table.replicate 32 Site.reset
    lists := Table.replicate 32 []
    search := none
    tie := Tie.reset 0 false
    log := ResultLog.reset
    link := Link.reset
    free := 0
    pending := [] }

end Sys2Proof.Machine
end

