-- ==== Sys2Proof/Machine/Flags.lean ====
section
/-! DEFINITION. Sets of conditions and of attention causes as bits, and the codes of section 10.3 to 10.9 for the
named choices. -/
namespace Sys2Proof.Machine

/-! ## Conditions (R172: "Condition sets use one bit per condition") -/

/-- The bit number of a condition, which is also its code (R172). -/
def Condition.bit (c : Condition) : Nat :=
  match c with
  | .dataFail => 0
  | .pageFail => 1
  | .opFail => 2
  | .readyTimeout => 3
  | .badLimit => 4
  | .searchOpen => 5
  | .filterStop => 6

/-- Whether the set holds the condition. -/
def CondSet.has (x : CondSet) (c : Condition) : Bool := x.getLsbD c.bit

/-- The set with the condition added; a condition it already holds leaves it as it was (R75). -/
def CondSet.add (x : CondSet) (c : Condition) : CondSet := x ||| BitVec.twoPow 7 c.bit

/-! ## Attention (R170) -/

/-- The attention causes (section 10.5). -/
inductive Attention where
  | runEnded | halted | paused | logLevel | stalled
  deriving DecidableEq, Repr

/-- The bit of an attention cause (R170). -/
def Attention.bit (a : Attention) : Nat :=
  match a with
  | .runEnded => 0
  | .halted => 1
  | .paused => 2
  | .logLevel => 3
  | .stalled => 4

/-- Set an attention cause; a cause already set stays set (R25, R151). -/
def setCause (a : Attention) (s : State) : State :=
  { s with link := { s.link with causes := s.link.causes ||| BitVec.twoPow 5 a.bit } }

/-- Whether an attention cause is set. -/
def State.hasCause (s : State) (a : Attention) : Bool := s.link.causes.getLsbD a.bit

/-- ATTN is asserted while at least one cause is set whose enable is also set (R170). -/
def State.attn (s : State) : Bool := (s.link.causes &&& s.setup.enables) != 0

/-! ## Status codes (R164) -/

/-- The status codes (R164). -/
inductive Status where
  | ok | badRequest | badIndex | readOnly | wrongState | planInvalid | stopActive | locked
  deriving DecidableEq, Repr

/-- The code of a status (R164). -/
def Status.code (x : Status) : Byte :=
  match x with
  | .ok => 0
  | .badRequest => 1
  | .badIndex => 2
  | .readOnly => 3
  | .wrongState => 4
  | .planInvalid => 5
  | .stopActive => 6
  | .locked => 7

/-! ## Codes of the named choices (R172, R174) -/

/-- The runner state in STATUS word 0 (R172). -/
def RunState.code (x : RunState) : Nat :=
  match x with
  | .idle => 0
  | .atMark => 1
  | .running => 2
  | .paused => 3
  | .logStall => 4
  | .halting => 5
  | .halted => 6
  | .done => 7

/-- The halt cause in STATUS word 1 (R172). -/
def HaltCause.code (x : HaltCause) : Nat :=
  match x with
  | .hostStop => 0
  | .peerStop => 1
  | .ownCondition => 2
  | .ownFilter => 3
  | .ownTimeout => 4

/-- The cause that an own pull gives to a stop (R137). -/
def OwnCause.toHalt (x : OwnCause) : HaltCause :=
  match x with
  | .hostStop => .hostStop
  | .ownCondition => .ownCondition
  | .ownFilter => .ownFilter
  | .ownTimeout => .ownTimeout

/-- The reason of a plan-check refusal in STATUS word 4 (R172). -/
def CheckReason.code (x : CheckReason) : Nat :=
  match x with
  | .badKind => 0
  | .badRange => 1
  | .badSpan => 2
  | .spanOverlap => 3
  | .bodyKind => 4

/-- The round kind in STATUS words 5 and 8 (R172). -/
def PageKind.code (x : PageKind) : Nat :=
  match x with
  | .erase => 0
  | .program => 1
  | .read => 2

/-- The site state in SITE_RESULT word 0 (R172). -/
def SiteState.code (x : SiteState) : Nat :=
  match x with
  | .off => 0
  | .active => 1
  | .waiting => 2
  | .rejected => 3

/-- The round phase in SITE_RESULT word 0 (R172). -/
def phaseCode (x : Option Phase) : Nat :=
  match x with
  | none => 0
  | some .awaitReady => 1
  | some .awaitData => 2

/-- The phase of a search in STATUS word 13 (R172). -/
def SearchPhase.code (x : SearchPhase) : Nat :=
  match x with
  | .body => 0
  | .vote => 1
  | .final => 2

/-- A verdict, a vote or a sampled veto as a bit: 1 is FAIL (R172, R174). -/
def Verdict.code (x : Verdict) : Nat :=
  match x with
  | .pass => 0
  | .fail => 1

/-- The scope of a search as a bit: 1 is MAINFRAME (R172, R174). -/
def Scope.code (x : Scope) : Nat :=
  match x with
  | .site => 0
  | .mainframe => 1

/-- The enlistment in PROBE word 1 (R169). -/
def Enlistment.code (x : Enlistment) : Nat :=
  match x with
  | .notEnlisted => 0
  | .enlisted => 1
  | .leftOut => 2

/-- The kind of a barrier in STATUS word 19 (R172). -/
def BarrierKind.code (x : BarrierKind) : Nat :=
  match x with
  | .start => 0
  | .rendezvous => 1
  | .trial => 2

/-- A parity as a bit: 1 is O (R172). -/
def Parity.code (x : Parity) : Nat :=
  match x with
  | .even => 0
  | .odd => 1

/-- The action of a filter (R172). -/
def Action.code (x : Action) : Nat :=
  match x with
  | .ignore => 0
  | .log => 1
  | .rejectSite => 2
  | .stopAll => 3

/-- The action that a code of two bits names (R172). -/
def Action.ofCode (n : Nat) : Action :=
  match n with
  | 0 => .ignore
  | 1 => .log
  | 2 => .rejectSite
  | _ => .stopAll

/-- The source of a page-fail record (R174). -/
def Source.code (x : Source) : Nat :=
  match x with
  | .readData => 0
  | .eraseStatus => 1
  | .programStatus => 2
  | .readStatus => 3

/-- The cause of a FOUND entry as a bit: 1 is OP_FAIL (R172, R174). -/
def ListCause.code (x : ListCause) : Nat :=
  match x with
  | .pageFail => 0
  | .opFail => 1

/-- The way a run ended (R174). -/
def EndWay.code (x : EndWay) : Nat :=
  match x with
  | .endStep => 0
  | .planExhausted => 1

/-- A flag as a number, 1 when set. -/
def bit (b : Bool) : Nat := if b then 1 else 0

/-- The log mode as a bit (R171). -/
def LogMode.code (x : LogMode) : Nat :=
  match x with
  | .unified => 0
  | .split => 1

/-- The log policy as a bit (R171). -/
def LogPolicy.code (x : LogPolicy) : Nat :=
  match x with
  | .wrap => 0
  | .stall => 1

end Sys2Proof.Machine
end

