-- ==== Sys2Proof/Machine/Operands.lean ====
section
/-! DEFINITION. The fields of words: bytes and words of a frame, and the fields of a step record (R173). -/
namespace Sys2Proof.Machine

/-! ## Bytes and words -/

/-- The high byte of a word, as a number. -/
def hi (w : Word) : Nat := w.toNat / 256

/-- The low byte of a word, as a number. -/
def lo (w : Word) : Nat := w.toNat % 256

/-- The low byte of a word. -/
def loByte (w : Word) : Byte := w.setWidth 8

/-- A word from its high and low bytes (section 10.2: "Every word travels most significant byte first"). -/
def wordOf (high low : Byte) : Word := high ++ low

/-- The two bytes of a word, most significant first. -/
def wordBytes (w : Word) : List Byte := [toByte (hi w), loByte w]

/-- The bytes of a list of words (section 10.2). -/
def wordsBytes (ws : List Word) : List Byte := ws.flatMap wordBytes

/-- The words of a payload, two bytes each; an odd last byte has no word. -/
def payloadWords (bs : List Byte) : List Word :=
  match bs with
  | a :: b :: rest => wordOf a b :: payloadWords rest
  | _ => []

/-- A word from its high and low bytes as numbers. -/
def pack (high low : Nat) : Word := toWord (high % 256 * 256 + low % 256)

/-! ## Choice fields of a step record (R173): none when the code names no choice -/

/-- op (R173). -/
def SweepOp.ofCode (n : Nat) : Option SweepOp :=
  match n with
  | 0 => some .erase
  | 1 => some .program
  | 2 => some .verify
  | 3 => some .programVerify
  | _ => none

/-- pattern (R173). -/
def Pattern.ofCode (n : Nat) : Option Pattern :=
  match n with
  | 0 => some .solid
  | 1 => some .checker
  | 2 => some .address
  | 3 => some .random
  | _ => none

/-- block order, page order (R173). -/
def Direction.ofCode (n : Nat) : Option Direction :=
  match n with
  | 0 => some .up
  | 1 => some .down
  | _ => none

/-- major order (R173). -/
def Major.ofCode (n : Nat) : Option Major :=
  match n with
  | 0 => some .blockMajor
  | 1 => some .pageMajor
  | _ => none

/-- polarity (R173). -/
def Polarity.ofCode (n : Nat) : Option Polarity :=
  match n with
  | 0 => some .ascending
  | 1 => some .descending
  | _ => none

/-- scope (R173). -/
def Scope.ofCode (n : Nat) : Option Scope :=
  match n with
  | 0 => some .site
  | 1 => some .mainframe
  | _ => none

/-- TRIM source, with the FIXED value word (R173). -/
def TrimSource.ofCode (n : Nat) (fixed : Word) : Option TrimSource :=
  match n with
  | 0 => some (.fixed (loByte fixed))
  | 1 => some .site
  | _ => none

/-- The margin: a low byte as a signed value −128 to +127 (R173). -/
def marginOf (w : Word) : Int := (loByte w).toInt

/-! ## The step record (R173) -/

/-- A word of a step record. -/
def recordWord (r : PlanRecord) (i : Fin 16) : Word := r.get i

/-- The kind code: the high byte of word 0 (R173). -/
def kindCode (r : PlanRecord) : Nat := hi (r.get 0)

/-- The label: the low byte of word 0 (R173). -/
def labelOf (r : PlanRecord) : Nat := lo (r.get 0)

/-- The note flag: bit 15 of word 1 (R173). -/
def noteOf (r : PlanRecord) : Bool := (r.get 1).getLsbD 15

/-- The fields of a SWEEP record; none when a choice field that the sweep uses names no choice. An ERASE sweep
uses neither page order, major order nor pattern (R3, R28), so their codes do not matter to it (log entry 21). -/
def sweepFields (r : PlanRecord) : Option SweepFields :=
  match SweepOp.ofCode (hi (r.get 2)), Direction.ofCode (hi (r.get 7)) with
  | some op, some blockOrder =>
    let fields (pattern : Pattern) (pageOrder : Direction) (major : Major) : SweepFields :=
      { op := op, firstBlock := (r.get 3).toNat, lastBlock := (r.get 4).toNat, firstPage := (r.get 5).toNat,
        lastPage := (r.get 6).toNat, blockOrder := blockOrder, pageOrder := pageOrder, major := major,
        pattern := pattern, background := lo (r.get 8), invert := (r.get 1).getLsbD 0, careMask := loByte (r.get 9),
        seed := (r.get 10).toNat, visitListed := (r.get 1).getLsbD 1 }
    match op with
    | .erase => some (fields .solid .up .blockMajor)
    | _ =>
      match Pattern.ofCode (lo (r.get 2)), Direction.ofCode (lo (r.get 7)), Major.ofCode (hi (r.get 8)) with
      | some pattern, some pageOrder, some major => some (fields pattern pageOrder major)
      | _, _, _ => none
  | _, _ => none

/-- The trial-fail set: word 5, bits 0–3 (R173). -/
def failSetOf (w : Word) : CondSet := (w &&& 15).setWidth 7

/-- The fields of a SEARCH record; none when a choice field names no choice (R173). -/
def searchFields (r : PlanRecord) : Option SearchFields :=
  match Polarity.ofCode (hi (r.get 3)), Scope.ofCode (lo (r.get 3)) with
  | some polarity, some scope =>
    some { address := toByte (hi (r.get 2)), bits := lo (r.get 2), polarity := polarity, scope := scope,
           body := (r.get 4).toNat, failSet := failSetOf (r.get 5), margin := marginOf (r.get 6),
           logTrials := (r.get 1).getLsbD 2 }
  | _, _ => none

/-- The deadline of a POLL record: word 4 × 65536 + word 5 (R173). -/
def pollDeadline (r : PlanRecord) : Nat := (r.get 4).toNat * 65536 + (r.get 5).toNat

/-- The kind of a record with its fields; none when the kind or a choice field that the kind uses names nothing. -/
def stepBody (r : PlanRecord) : Option StepBody :=
  match kindCode r with
  | 0 => some .endStep
  | 1 => (sweepFields r).map .sweep
  | 2 => some (.poll (toByte (hi (r.get 2))) (loByte (r.get 2)) (r.get 3).toNat (pollDeadline r))
  | 3 => (TrimSource.ofCode (lo (r.get 2)) (r.get 3)).map (.trim (toByte (hi (r.get 2))))
  | 4 => (searchFields r).map .search
  | 5 => some .rendezvous
  | 6 => some (.repeatStep (r.get 2).toNat (r.get 3).toNat)
  | 7 => some .marker
  | _ => none

/-- A step record read as the runner reads it (R2, R173). -/
def planStep (r : PlanRecord) : Option PlanStep :=
  (stepBody r).map fun b => { note := noteOf r, label := labelOf r, body := b }

/-- The record at an index, when the index is one of the Plan Store. -/
def recordAt (p : PlanStore) (i : Nat) : Option PlanRecord :=
  if h : i < 256 then some (p.get ⟨i, h⟩) else none

/-- The step at an index (R1: "The runner reads a record from the Plan Store when it reaches that index"). -/
def stepAt (p : PlanStore) (i : Nat) : Option PlanStep := (recordAt p i).bind planStep

end Sys2Proof.Machine
end

