-- ==== Sys2Proof/Machine/Ops.lean ====
section
/-! DEFINITION. The operations that many commands share: offering records to the Result Log (chapter 9), pulling
STOP and the drive of the mark lines (chapter 8), and the Site Table with its conditions, stop test and lists
(chapters 5 and 6). -/
namespace Sys2Proof.Machine

/-! ## The Result Log (R144 to R151) -/

/-- The capacity of a ring under a mode (R144). -/
def ringCapacity (m : LogMode) : Nat :=
  match m with
  | .unified => 2048
  | .split => 1024

/-- Whether a record goes to ring 1: an event record, in SPLIT (R144). -/
def goesToRing1 (m : LogMode) (b : RecordBody) : Bool :=
  match m, b with
  | .unified, _ => false
  | .split, .pageFail _ => false
  | .split, _ => true

/-- A ring after one record has been stored: a full ring loses its oldest record first (R145, R146). -/
def Ring.store (r : Ring) (capacity : Nat) (station : BitVec 4) (b : RecordBody) : Ring :=
  let record : LogRecord := { sequence := r.next, station := station, body := b }
  if r.records.length < capacity then
    { records := r.records ++ [record], oldest := r.oldest, next := (r.next + 1) % 65536 }
  else
    { records := r.records.tail ++ [record], oldest := (r.oldest + 1) % capacity, next := (r.next + 1) % 65536 }

/-- Whether a store has just brought a ring's count up to the watermark (R151). -/
def reachesWatermark (watermark : Nat) (before after : Ring) : Bool :=
  before.records.length < after.records.length && after.records.length == watermark

/-- Offer a record to the Result Log: discarded while frozen (R149), else stored in the ring its kind selects
(R144, R145, R146), with LOG_LEVEL set when the store brings the count up to the watermark (R151). -/
def offer (b : RecordBody) (s : State) : State :=
  if s.log.frozen then s
  else
    let capacity := ringCapacity s.setup.logMode
    if goesToRing1 s.setup.logMode b then
      let ring := s.log.ring1.store capacity s.tie.station b
      let s' := { s with log := { s.log with ring1 := ring } }
      if reachesWatermark s.setup.watermark s.log.ring1 ring then setCause .logLevel s' else s'
    else
      let ring := s.log.ring0.store capacity s.tie.station b
      let s' := { s with log := { s.log with ring0 := ring } }
      if reachesWatermark s.setup.watermark s.log.ring0 ring then setCause .logLevel s' else s'

/-- The free slots of a ring. -/
def Ring.free (r : Ring) (capacity : Nat) : Nat := capacity - r.records.length

/-- The headroom condition: every ring of the mode in force has at least 128 free slots (R147). -/
def State.headroomMet (s : State) : Bool :=
  let capacity := ringCapacity s.setup.logMode
  match s.setup.logMode with
  | .unified => 128 ≤ s.log.ring0.free capacity
  | .split => 128 ≤ s.log.ring0.free capacity && 128 ≤ s.log.ring1.free capacity

/-- Whether the runner's headroom test fails: the test is made under STALL only (R12). -/
def State.headroomShort (s : State) : Bool := s.setup.logPolicy == .stall && !s.headroomMet

/-- The notice that HALTING or HALTED has been entered: the log freezes when the freeze flag is set (R18, R149). -/
def freezeNotice (s : State) : State :=
  if s.setup.freeze then { s with log := { s.log with frozen := true } } else s

/-- Empty every ring; the frozen state is kept (R148, R152). -/
def emptyRings (s : State) : State :=
  { s with log := { s.log with ring0 := Ring.empty, ring1 := Ring.empty } }

/-! ## The Tie Port (R129, R136, R137) -/

/-- Whether the station is enlisted. -/
def State.isEnlisted (s : State) : Bool := s.tie.enlistment == .enlisted

/-- The parity of a barrier number (R130). -/
def parityOf (barrier : Nat) : Parity := if barrier % 2 == 0 then .even else .odd

/-- Whether the station's drive record pulls VETO of a parity: its held veto, and the veto of the barrier it waits
at when its vote is FAIL (R129). -/
def Tie.vetoDrive (t : Tie) (p : Parity) : Bool :=
  t.heldVeto == some p ||
    (match t.wait with
     | some w => w.kind == .trial && w.line == p && t.vote == some .fail
     | none => false)

/-- The quiet drive of IDLE, DONE and HALTED: both mark lines pulled, no veto, no vote; and no wait, with the
rendezvous timer stopped (R129, R134, R138). -/
def Tie.quiet (t : Tie) : Tie :=
  { t with markE := true, markO := true, heldVeto := none, vote := none, wait := none, timer := none }

/-- An own-pull request: the first cause stands; a stop comes into force with it when none is (R136, R137). -/
def requestPull (c : OwnCause) (s : State) : State :=
  match s.tie.ownPull with
  | some _ => s
  | none =>
    match s.tie.stop with
    | some _ => { s with tie := { s.tie with ownPull := some c } }
    | none => { s with tie := { s.tie with ownPull := some c, stop := some c.toHalt, reported := false } }

/-- The stop in force worked out again from the sensed STOP level, with the own pull absent (R137, R139). The
runner, in IDLE, has nothing to do at it, so it counts as reported. -/
def Tie.resense (t : Tie) : Tie :=
  { t with ownPull := none, stop := if t.peerStop then some .peerStop else none, reported := t.peerStop }

/-! ## The Site Table (R77, R79, R80, R82, R83, R85) -/

/-- The record of a site. -/
def State.site (s : State) (i : SiteId) : Site := s.sites.get i

/-- The state with a site's record changed. -/
def modifySite (i : SiteId) (f : Site → Site) (s : State) : State := { s with sites := s.sites.modify i f }

/-- Whether the site is ACTIVE. -/
def State.isActive (s : State) (i : SiteId) : Bool := (s.site i).state == .active

/-- Whether the site is WAITING. -/
def State.isWaiting (s : State) (i : SiteId) : Bool := (s.site i).state == .waiting

/-- Whether the site is ACTIVE or WAITING (R82). -/
def State.inPlay (s : State) (i : SiteId) : Bool := s.isActive i || s.isWaiting i

/-- Whether the site's enabled flag is set: in every state but OFF (R75, R77). -/
def Site.enabled (x : Site) : Bool := x.state != .off

/-- Clear every site's current condition set (R79). -/
def clearCurrent (s : State) : State := { s with sites := s.sites.map fun x => { x with current := 0 } }

/-- Clear every site's trial-failed flag (R87). -/
def clearTrialFlags (s : State) : State := { s with sites := s.sites.map fun x => { x with trialFailed := false } }

/-- Raise a condition outside trial mode: it enters both sets, whatever the site's state (R79, R80). -/
def raise (c : Condition) (i : SiteId) (s : State) : State :=
  modifySite i (fun x => { x with current := x.current.add c, accrued := x.accrued.add c }) s

/-- Reject an ACTIVE or WAITING site and offer its SITE_REJECTED record; any other site is left as it is
(R82, R85). The reject step is the runner's step index. -/
def rejectSite (c : Condition) (i : SiteId) (block page : Option Nat) (s : State) : State :=
  if s.inPlay i then
    offer (.siteRejected { site := i, cause := c, step := s.runner.stepIndex, block := block, page := page })
      (modifySite i (fun x => { x with state := .rejected, reject := some { cause := c, step := s.runner.stepIndex } }) s)
  else s

/-- The stop test over the conditions raised in a handling, in the order raised (R82, R83). -/
def stopTest (raised : List Condition) (i : SiteId) (block page : Option Nat) (s : State) : State :=
  let s1 :=
    match raised.find? fun c => s.setup.siteStop.has c with
    | some c => rejectSite c i block page s
    | none => s
  if raised.any fun c => s.setup.mainframeStop.has c then requestPull .ownCondition s1 else s1

/-- The filter's own action, step 6 of a handling (R85). -/
def filterAction (a : Action) (i : SiteId) (block page : Option Nat) (s : State) : State :=
  match a with
  | .rejectSite => rejectSite .filterStop i block page (raise .filterStop i s)
  | .stopAll => requestPull .ownFilter (raise .filterStop i s)
  | _ => s

/-! ## The Bad-Block Lists (R98, R101) -/

/-- The list of a site. -/
def State.list (s : State) (i : SiteId) : List Entry := s.lists.get i

/-- Whether a list holds a block (R101). -/
def listHolds (l : List Entry) (block : Nat) : Bool := l.any fun e => e.block == block

/-- A listing request, step 3 of a handling (R98, R99): already listed, room below the limit, or at the limit. The
answer says whether BAD_LIMIT is to be raised (R100). -/
def takeBlock (i : SiteId) (block : Nat) (page : Option Nat) (cause : ListCause) (s : State) : State × Bool :=
  if listHolds (s.list i) block then (s, false)
  else if (s.list i).length < s.setup.listLimit then
    let entry : Entry := { block := block, found := some { cause := cause, step := s.runner.stepIndex } }
    (offer (.blockBad { site := i, block := block, page := page, cause := cause, step := s.runner.stepIndex,
                        count := (s.list i).length + 1 })
      { s with lists := s.lists.set i (s.list i ++ [entry]) }, false)
  else (s, true)

/-- Step 3 of a handling with the raise of BAD_LIMIT it may bring (R100); the answer says whether it was raised. -/
def requestListing (i : SiteId) (block : Nat) (page : Option Nat) (cause : ListCause) (s : State) : State × Bool :=
  let r := takeBlock i block page cause s
  if r.2 then (raise .badLimit i r.1, true) else r

end Sys2Proof.Machine
end

