-- ==== Sys2Proof/Machine/Sweeps.lean ====
section
/-! DEFINITION. The Address/Data Generator: the order of rounds (R26 to R29) and the expected bytes (R32 to R36);
and the Tally Unit's arithmetic (R63 to R68). -/
namespace Sys2Proof.Machine

/-! ## Address order (R26 to R29) -/

/-- The first value of a dimension (R26, R27). -/
def dimStart (d : Direction) (first last : Nat) : Nat :=
  match d with
  | .up => first
  | .down => last

/-- The value after `x` in a dimension; none at its end (R27). -/
def dimNext (d : Direction) (first last x : Nat) : Option Nat :=
  match d with
  | .up => if x < last then some (x + 1) else none
  | .down => if first < x then some (x - 1) else none

/-- The first round kind of an operation at each pair (R29). -/
def firstKind (op : SweepOp) : PageKind :=
  match op with
  | .erase => .erase
  | .program => .program
  | .verify => .read
  | .programVerify => .program

/-- The first round of a sweep (R26). -/
def firstPosition (f : SweepFields) : Position :=
  { kind := firstKind f.op
    block := dimStart f.blockOrder f.firstBlock f.lastBlock
    page := match f.op with
      | .erase => none
      | _ => some (dimStart f.pageOrder f.firstPage f.lastPage) }

/-- The (block, page) pair that follows a pair; none when the rectangle has been visited (R27). -/
def nextPair (f : SweepFields) (block page : Nat) : Option (Nat × Nat) :=
  match f.major with
  | .blockMajor =>
    match dimNext f.pageOrder f.firstPage f.lastPage page with
    | some page' => some (block, page')
    | none =>
      (dimNext f.blockOrder f.firstBlock f.lastBlock block).map fun block' =>
        (block', dimStart f.pageOrder f.firstPage f.lastPage)
  | .pageMajor =>
    match dimNext f.blockOrder f.firstBlock f.lastBlock block with
    | some block' => some (block', page)
    | none =>
      (dimNext f.pageOrder f.firstPage f.lastPage page).map fun page' =>
        (dimStart f.blockOrder f.firstBlock f.lastBlock, page')

/-- The successor of a round of a sweep, none when the sweep is complete (R28, R29). -/
def successorOf (f : SweepFields) (p : Position) : Option Position :=
  match f.op, p.kind, p.page with
  | .erase, _, _ =>
    (dimNext f.blockOrder f.firstBlock f.lastBlock p.block).map fun b => { kind := .erase, block := b, page := none }
  | .programVerify, .program, _ => some { p with kind := .read }
  | _, _, some page =>
    (nextPair f p.block page).map fun q => { kind := firstKind f.op, block := q.1, page := some q.2 }
  | _, _, none => none

/-! ## Expected data (R32 to R36) -/

/-- The linear page of a pair (R32). -/
def linearPage (pagesPerBlock block page : Nat) : Nat := block * pagesPerBlock + page

/-- The start state of the RANDOM generator (R35). -/
def randomStart (seed linear : Nat) : Word := toWord (seed + 257 * linear)

/-- The next state of the RANDOM generator (R35). -/
def randomNext (x : Word) : Word := toWord (25173 * x.toNat + 13849)

/-- The byte of the stream before inversion; `next` is the RANDOM state that follows the step of this offset
(R33, R34, R35). -/
def patternByte (f : SweepFields) (pagesPerBlock block page offset : Nat) (next : Word) : Byte :=
  match f.pattern with
  | .solid => toByte f.background
  | .checker => if (offset + page) % 2 == 0 then toByte f.background else toByte (255 - f.background)
  | .address => toByte (offset + linearPage pagesPerBlock block page + f.background)
  | .random => toByte (hi next)

/-- The expected byte that leaves the ADG (R36). -/
def expectedByte (f : SweepFields) (pagesPerBlock block page offset : Nat) (next : Word) : Byte :=
  let e := patternByte f pagesPerBlock block page offset next
  if f.invert then ~~~e else e

/-- The RANDOM state with which a stream starts, for a sweep under RANDOM; no state under another pattern (R35). -/
def streamStart (f : SweepFields) (pagesPerBlock : Nat) (p : Position) : Option Word :=
  match f.pattern, p.page with
  | .random, some page => some (randomStart f.seed (linearPage pagesPerBlock p.block page))
  | _, _ => none

/-- The stream of a page from a RANDOM state on: `count` bytes from `offset` (R35, R36). -/
def streamFrom (f : SweepFields) (pagesPerBlock block page count offset : Nat) (state : Word) : List Byte :=
  match count with
  | 0 => []
  | count + 1 =>
    expectedByte f pagesPerBlock block page offset (randomNext state) ::
      streamFrom f pagesPerBlock block page count (offset + 1) (randomNext state)

/-- The P bytes of a page's stream, from offset 0 and, under RANDOM, from s₀ on (R32 to R36). -/
def pageStream (f : SweepFields) (pagesPerBlock pageBytes block page : Nat) : List Byte :=
  streamFrom f pagesPerBlock block page pageBytes 0 (randomStart f.seed (linearPage pagesPerBlock block page))

/-! ## Tally arithmetic (R63 to R68) -/

/-- A byte's contribution: the bit positions set in the care mask at which read and expected byte differ (R63). -/
def contribution (read expected care : Byte) : Nat :=
  let d := (read ^^^ expected) &&& care
  ((List.range 8).filter fun i => d.getLsbD i).length

/-- The codeword count K, ceiling(P / C) (R64). -/
def codewordCount (pageBytes codewordBytes : Nat) : Nat := (pageBytes + codewordBytes - 1) / codewordBytes

/-- The tally record after a byte of contribution `n` (R65). -/
def Tally.add (t : Tally) (codewordBytes n : Nat) : Tally :=
  { t with taken := t.taken + 1, sums := t.sums.modify (t.taken / codewordBytes) (· + n) }

/-- The largest of a list of tallies. -/
def largest (sums : List Nat) : Nat := sums.foldl max 0

/-- The page total, which stops at 65535 (R66). -/
def pageTotal (sums : List Nat) : Nat := min sums.sum 65535

/-- The number of codewords over θ (R67, R68). -/
def overCount (threshold : Nat) (sums : List Nat) : Nat := (sums.filter fun x => threshold < x).length

/-- The page outcome from the codeword tallies and θ (R67, R68). -/
def formOutcome (threshold : Nat) (sums : List Nat) : PageOutcome :=
  { kind := if largest sums == 0 then .clean else if overCount threshold sums == 0 then .dataFail else .pageFail
    worstIndex := sums.findIdx fun x => x == largest sums
    worstTally := largest sums
    overCount := overCount threshold sums
    total := pageTotal sums
    count := sums.length }

end Sys2Proof.Machine
end

