-- ==== Sys2Proof/Machine/Runner.lean ====
section
/-! DEFINITION. The Plan Runner with the Round Engine's forming and end of rounds and the Trim Search Unit: all the
work that the runner goes through without waiting (sections 1.6 to 1.9, 3.2, 3.8, chapter 7, 8.5). One piece of it
is `advance`; `settle` repeats it until the runner waits. A piece ends where a rule lets a stop or an ABORT come in:
at a boundary, between two rounds, after a passing, before and after a trial's close, and before and between the
handlings of the sites' results (R16, R17, R22, R120, R121). No command but those that only this work can bring about
runs it: a step on an empty queue takes one piece (log entry 39). -/
namespace Sys2Proof.Machine

/-! ## Halting (R17, R18) -/

/-- Enter HALTED (R18), with the quiet drive of R129. The cause is recorded if none is recorded yet. -/
def enterHalted (cause : Option HaltCause) (s : State) : State :=
  let recorded := s.runner.haltCause <|> cause
  let s1 : State :=
    { s with
      runner := { s.runner with state := .halted, haltCause := recorded, pendingPause := false, singleStep := false,
                                point := .rest }
      tie := s.tie.quiet }
  freezeNotice (setCause .halted (offer (.halted recorded s1.runner.stepIndex s1.tie.barrier) s1))

/-- A stop reported to the runner in RUNNING with no round in flight: HALTED at once (R17), but for the handing out of a
search's results, which is done first (R121). -/
def stopBetweenRounds (cause : HaltCause) (s : State) : State :=
  match s.runner.point with
  | .handOut held => { s with runner := { s.runner with point := .handOut (held <|> some cause) } }
  | _ => enterHalted (some cause) s

/-- The runner takes a stop in force according to its state (R17). -/
def runnerStop (cause : HaltCause) (s : State) : State :=
  match s.runner.state with
  | .running =>
    if s.runner.roundInFlight then
      freezeNotice { s with runner := { s.runner with state := .halting, haltCause := some cause } }
    else stopBetweenRounds cause s
  | .atMark => enterHalted (some cause) s
  | .paused => enterHalted (some cause) s
  | .logStall => enterHalted (some cause) s
  | .halting => s
  | .halted => s
  | .idle => s
  | .done => s

/-- The Tie Port's report of a stop in force, made once for each stop (R137, R17). -/
def takeStop (s : State) : State :=
  match s.tie.stop with
  | some cause =>
    if s.tie.reported then s else runnerStop cause { s with tie := { s.tie with reported := true } }
  | none => s

/-! ## Completion of steps (R13, R14, R15) -/

/-- Enter DONE (R13), with the quiet drive of R129. -/
def enterDone (way : EndWay) (s : State) : State :=
  let s1 : State :=
    { s with
      runner := { s.runner with state := .done, pendingPause := false, singleStep := false, repeatContext := none,
                                point := .rest }
      tie := s.tie.quiet }
  setCause .runEnded (offer (.runEnd s1.runner.stepIndex way) s1)

/-- Go to the boundary before the step at an index, or enter DONE when the index is past step 255 (R13, R14). -/
def goTo (index : Nat) (s : State) : State :=
  if index < 256 then { s with runner := { s.runner with stepIndex := index, point := .boundary } }
  else enterDone .planExhausted s

/-- The step at the step index completes (R13). -/
def completeStep (s : State) : State := goTo (s.runner.stepIndex + 1) s

/-- Whether the runner is in the body of a search: trial mode's rounds are the rounds asked for here (R14, R110,
R112). -/
def State.inTrialBody (s : State) : Bool :=
  match s.search with
  | some c => c.phase == .body
  | none => false

/-- The own work of the step at the step index has ended: outside a search the step completes; inside, the next body
step follows, or the close of the trial after the last (R13, R14, R112). -/
def workDone (s : State) : State :=
  match s.search with
  | some c =>
    if c.phase == .body then
      if s.runner.stepIndex < c.step + c.fields.body then
        { s with runner := { s.runner with stepIndex := s.runner.stepIndex + 1, point := .boundary } }
      else { s with runner := { s.runner with point := .close } }
    else completeStep s
  | none => completeStep s

/-- The search completes: the context is made absent and the runner goes on at s + k + 1 (R119, R14). -/
def completeSearch (s : State) : State :=
  match s.search with
  | some c => goTo (c.step + c.fields.body + 1) { s with search := none }
  | none => s

/-! ## The end of a round (R56, R29, R31) -/

/-- The end of a sweep's round, not in HALTING: the successor, or the end of the sweep (R29, R31). -/
def sweepRoundEnded (s : State) : State :=
  match s.sweep with
  | some w =>
    match w.position.bind (successorOf w.fields) with
    | some next =>
      { s with sweep := some { w with successor := some next }, runner := { s.runner with point := .ask .sweep } }
    | none => workDone { s with sweep := none }
  | none => workDone s

/-- What the runner does at the end of a round it asked for, in RUNNING. -/
def afterRound (a : Ask) (s : State) : State :=
  match a with
  | .sweep => sweepRoundEnded s
  | .poll => workDone s
  | .trim => workDone s
  | .trialCode => { s with runner := { s.runner with point := .work } }
  | .finalTrim => completeSearch s

/-- The end of the round in flight: the record is removed and the end reported; in HALTING the runner enters HALTED
and no successor is worked out (R56, R17, R31). -/
def endRound (s : State) : State :=
  let s1 : State := { s with round := none, runner := { s.runner with roundInFlight := false } }
  match s.runner.state with
  | .halting => enterHalted s.tie.stop s1
  | _ =>
    match s.runner.point with
    | .inRound a => afterRound a s1
    | _ => s1

/-- Whether some participant is still WAITING (R56). -/
def anyWaiting (s : State) : Bool := allSites.any fun i => s.isWaiting i

/-- End the round in flight when no participant is WAITING (R56). -/
def endRoundIfDone (s : State) : State :=
  match s.round with
  | some _ => if anyWaiting s then s else endRound s
  | none => s

/-! ## Forming a round (R42, R43, R44) -/

/-- The bytes that the ADG gives a PROGRAM round's participants: the stream of the sweep's page, the same for each of
them (R30, R36). -/
def programData (s : State) (p : Position) : List Byte :=
  match s.sweep, p.page with
  | some w, some page => pageStream w.fields s.setup.pagesPerBlock s.setup.pageBytes p.block page
  | _, _ => []

/-- The transaction of a page round: ERASE with its form, PROGRAM with its bytes, or the command part of READ (R43). -/
def pageTx (s : State) (p : Position) (precondition : Bool) : Tx :=
  match p.kind with
  | .program => .program p (programData s p)
  | _ => .page p precondition

/-- The transaction of a round at a participant's port; a POLL round sends none at forming (R43). -/
def roundTx (s : State) (w : RoundWork) (i : SiteId) : Option Tx :=
  match w with
  | .page p precondition => some (pageTx s p precondition)
  | .poll _ _ _ _ => none
  | .setparam address values => (values.get i).map (.setparam address)

/-- A transaction handed to a port: begun when the port is idle, else queued behind the one in progress (R43). -/
def Port.send (p : Port) (tx : Tx) : Port :=
  match p.current with
  | none => { p with current := some { tx := tx, live := true } }
  | some _ => { p with queued := some tx }

/-- A participant's port at forming, with the transaction that the round sends, if it sends one. A POLL round's first
status read is queued when the port is busy (R53). -/
def Port.form (p : Port) (tx : Option Tx) : Port :=
  match tx with
  | some tx => p.send tx
  | none =>
    match p.current with
    | none => p
    | some _ => { p with queued := some .status }

/-- A timer started from 0. -/
def Timer.start (limit : Nat) : Timer := { limit := limit, elapsed := 0 }

/-- The deadline of a round (R47); none for SETPARAM. -/
def roundDeadline (g : Setup) (w : RoundWork) : Option Nat :=
  match w with
  | .page p _ =>
    match p.kind with
    | .erase => some g.eraseDeadline
    | .program => some g.programDeadline
    | .read => some g.readDeadline
  | .poll _ _ _ deadline => some deadline
  | .setparam _ _ => none

/-- The timers of a site at its issue: the round's deadline and the poll interval; none for SETPARAM (R44). -/
def clocksAtIssue (g : Setup) (w : RoundWork) : Clocks :=
  match roundDeadline g w with
  | some deadline => { poll := some (Timer.start g.pollInterval), deadline := some (Timer.start deadline) }
  | none => Clocks.stopped

/-- The timers of a participant at forming: a POLL round is issued by its forming (R44, R53). -/
def clocksAtForming (g : Setup) (w : RoundWork) : Clocks :=
  match w with
  | .poll _ _ _ _ => clocksAtIssue g w
  | _ => Clocks.stopped

/-- Whether the port carries a PROGRAM, live or discarded, whose bytes it is taking. -/
def Port.programming (p : Port) : Bool :=
  match p.current with
  | some { tx := .program _ _, live := _ } => true
  | _ => false

/-- The RANDOM state of a site's stream once its part in a round is gone: a PROGRAM in progress at its port goes on
taking its bytes (R35, R41; log entry 31). -/
def streamLeft (s : State) (i : SiteId) : Option Word :=
  if (s.ports.get i).programming then s.streams.get i else none

/-- The RANDOM state a participant's stream starts with at forming: s₀ for a PROGRAM round under RANDOM (R35). -/
def streamAtForming (s : State) (w : RoundWork) (i : SiteId) : Option Word :=
  match w, s.sweep with
  | .page p _, some sw =>
    match p.kind with
    | .program => streamStart sw.fields s.setup.pagesPerBlock p
    | _ => streamLeft s i
  | _, _ => streamLeft s i

/-- A site's record as it enters a round (R43, R78). -/
def Site.enterRound (x : Site) : Site := { x with state := .waiting, phase := some .awaitReady, runCount := 0 }

/-- The participant set of a round: the ACTIVE sites that its supplier admits (R42). -/
def participantSet (admits : SiteId → Bool) (s : State) : SiteSet :=
  SiteSet.ofPred fun i => s.isActive i && admits i

/-- Form a round (R40, R42, R43): fix the participants, set each WAITING and start its port. A round with no
participant ends when it is formed. -/
def formRound (a : Ask) (w : RoundWork) (admits : SiteId → Bool) (s : State) : State :=
  let parts := participantSet admits s
  let formed : State :=
    { s with
      round := some { work := w, participants := parts, trial := s.inTrialBody }
      runner := { s.runner with roundInFlight := true, point := .inRound a }
      sites := Table.ofFn fun i => if parts.has i then (s.sites.get i).enterRound else s.sites.get i
      ports := Table.ofFn fun i => if parts.has i then (s.ports.get i).form (roundTx s w i) else s.ports.get i
      clocks := Table.ofFn fun i => if parts.has i then clocksAtForming s.setup w else s.clocks.get i
      streams := Table.ofFn fun i => if parts.has i then streamAtForming s w i else s.streams.get i }
  endRoundIfDone formed

/-! ## Asking for a round (R12, R30, R110, R119) -/

/-- Enter LOG_STALL, to repeat later the test that failed (R12). -/
def enterLogStall (s : State) : State :=
  setCause .stalled { s with runner := { s.runner with state := .logStall } }

/-- The values of a trial-code round: each site of the trial set gets its trial code (R110). -/
def trialValues (c : Search) : PerSite (Option Byte) :=
  Table.ofFn fun i =>
    if c.trialSet.has i then
      (match c.fields.scope with
       | .site => c.codes.get i
       | .mainframe => c.stationCode).map toByte
    else none

/-- The largest search value of a search of W bits, 2^W − 1. -/
def maxValue (bits : Nat) : Nat := 2 ^ bits - 1

/-- The final trim of a present result code (R117). -/
def finalTrim (f : SearchFields) (code : Nat) : Nat := min (((code : Int) + f.margin).toNat) (maxValue f.bits)

/-- The values of the final trim round: each site whose result is present gets its final trim (R119). -/
def finalValues (c : Search) : PerSite (Option Byte) := c.results.map fun code => code.map fun k => toByte (finalTrim c.fields k)

/-- The values of a TRIM step's round: FIXED, or each site's own trim code (R4, R42). -/
def trimValues (source : TrimSource) (s : State) : PerSite (Option Byte) :=
  Table.ofFn fun i =>
    match source with
    | .fixed v => some v
    | .site => some (s.site i).trim

/-- A SETPARAM round: its participants are the ACTIVE sites given a value (R42). -/
def formSetparam (a : Ask) (address : Byte) (values : PerSite (Option Byte)) (s : State) : State :=
  formRound a (.setparam address values) (fun i => (values.get i).isSome) s

/-- The listed-block test of a sweep's round (R37, R101). -/
def sweepAdmits (f : SweepFields) (block : Nat) (s : State) (i : SiteId) : Bool :=
  f.visitListed || !listHolds (s.list i) block

/-- The runner asks for a round of the sweep: the successor becomes the position (R30). -/
def requestSweepRound (s : State) : State :=
  match s.sweep with
  | some w =>
    match w.successor with
    | some p =>
      formRound .sweep (.page p (w.fields.op == .erase && w.fields.invert)) (sweepAdmits w.fields p.block s)
        { s with sweep := some { w with position := some p, successor := none } }
    | none => { s with runner := { s.runner with point := .rest } }
  | none => { s with runner := { s.runner with point := .rest } }

/-- The runner asks for a round, the headroom test being passed (R30, R53, R54, R110, R119). A step that is not of
the kind asked for (no plan that START accepted has one here) leaves the runner at rest (log entry 22). -/
def requestRound (a : Ask) (s : State) : State :=
  match a with
  | .sweep => requestSweepRound s
  | .poll =>
    match (stepAt s.plan s.runner.stepIndex).map PlanStep.body with
    | some (.poll mask expected count deadline) => formRound .poll (.poll mask expected count deadline) (fun _ => true) s
    | _ => { s with runner := { s.runner with point := .rest } }
  | .trim =>
    match (stepAt s.plan s.runner.stepIndex).map PlanStep.body with
    | some (.trim address source) => formSetparam .trim address (trimValues source s) s
    | _ => { s with runner := { s.runner with point := .rest } }
  | .trialCode =>
    match s.search with
    | some c => formSetparam .trialCode c.fields.address (trialValues c) s
    | none => { s with runner := { s.runner with point := .rest } }
  | .finalTrim =>
    match s.search with
    | some c => formSetparam .finalTrim c.fields.address (finalValues c) s
    | none => { s with runner := { s.runner with point := .rest } }

/-- Before a round: the headroom test of R12, then the request. -/
def askRound (a : Ask) (s : State) : State :=
  if s.headroomShort then enterLogStall s else requestRound a s

/-! ## The trim search (chapter 7) -/

/-- The search value of a trial from the value r as the trial begins (R109). -/
def trialValue (bits trial r : Nat) : Nat := if trial ≤ bits then r + 2 ^ (bits - trial) - 1 else r

/-- The code of a search value: itself, or its mirror under DESCENDING (R109, R116). -/
def codeOf (f : SearchFields) (value : Nat) : Nat :=
  match f.polarity with
  | .ascending => value
  | .descending => maxValue f.bits - value

/-- The value after a verdict of a trial (R114). -/
def valueAfter (bits trial r : Nat) (v : Verdict) : Nat :=
  match v with
  | .pass => r
  | .fail => if trial ≤ bits then r + 2 ^ (bits - trial) else r

/-- The trial code that a trial event of a site carries (R111). -/
def Search.codeFor (c : Search) (i : SiteId) : Option Nat :=
  match c.fields.scope with
  | .site => c.codes.get i
  | .mainframe => c.stationCode

/-- The search context as a SEARCH step creates it (R107, R108). The spec gives it no trial set and no trial code before
trial 1 begins: they are empty and absent until then (DESIGN CHOICE, log entry 43). -/
def newSearch (f : SearchFields) (s : State) : Search :=
  { step := s.runner.stepIndex, fields := f, members := SiteSet.ofPred s.isActive, trial := 1, phase := .body,
    values := Table.replicate 32 0, stationValue := 0, trialSet := 0, codes := Table.replicate 32 none,
    stationCode := none, localVote := none, combined := none, results := Table.replicate 32 none, outstanding := 0 }

/-- The context at the beginning of a trial: the trial set and the trial codes (R110). -/
def Search.beginTrial (c : Search) : Search :=
  let set := if c.trial ≤ c.fields.bits then c.members else c.trialSet
  match c.fields.scope with
  | .site =>
    { c with
      trialSet := set
      codes := Table.ofFn fun i =>
        if set.has i then some (codeOf c.fields (trialValue c.fields.bits c.trial (c.values.get i)))
        else c.codes.get i }
  | .mainframe =>
    { c with
      trialSet := set
      stationCode := some (codeOf c.fields (trialValue c.fields.bits c.trial c.stationValue)) }

/-- A trial begins: flags cleared, trial set and codes fixed, the code round asked for (R110). Every site's flag is
cleared, that of a site which has left the search too (R87, R110; DESIGN CHOICE, log entry 41). -/
def beginTrial (c : Search) (s : State) : State :=
  let s1 := clearTrialFlags s
  { s1 with search := some c.beginTrial, runner := { s1.runner with point := .ask .trialCode } }

/-- The verdict of a site of the trial set from its trial-failed flag (R112). -/
def Site.verdict (x : Site) : Verdict := if x.trialFailed then .fail else .pass

/-- The result code of a site, absent when no trial passed (R116). The extra trial's verdict is the site's flag in
SITE scope and the combined verdict in MAINFRAME scope. -/
def resultCode (c : Search) (i : SiteId) (s : State) : Option Nat :=
  let value :=
    match c.fields.scope with
    | .site => c.values.get i
    | .mainframe => c.stationValue
  let extra :=
    match c.fields.scope with
    | .site => (s.site i).verdict
    | .mainframe => c.combined.getD .fail
  if value == maxValue c.fields.bits && extra == .fail then none else some (codeOf c.fields value)

/-- The trial count of a site (R114). -/
def trialCount (c : Search) (i : SiteId) : Nat :=
  let value :=
    match c.fields.scope with
    | .site => c.values.get i
    | .mainframe => c.stationValue
  if value == maxValue c.fields.bits then c.fields.bits + 1 else c.fields.bits

/-- The handling of one site's result (R118, R88), whatever the site's state: written, recorded, and SEARCH_OPEN with
the stop test when it is absent. -/
def handOutSite (c : Search) (s : State) (i : SiteId) : State :=
  let code := c.results.get i
  let trim := code.map (finalTrim c.fields)
  let written := modifySite i (fun x => { x with result := code.map toByte, trim := (trim.map toByte).getD x.trim }) s
  let recorded :=
    offer (.searchResult { site := i, step := c.step, scope := c.fields.scope, code := code, trim := trim,
                           trials := trialCount c i }) written
  match code with
  | some _ => recorded
  | none => stopTest [.searchOpen] i none none (raise .searchOpen i recorded)

/-- The sites of a set in ascending order (where the spec leaves their order open: R118, log entry 9). -/
def membersInOrder (x : SiteSet) : List SiteId := allSites.filter fun i => x.has i

/-- Whether some site has a present result (R119). -/
def anyResult (c : Search) : Bool := allSites.any fun i => (c.results.get i).isSome

/-- Every site's handling is done: a stop reported meanwhile is taken first; then the final trim round is asked for, or
the search ends when no site has a present result (R119, R121). -/
def afterResults (c : Search) (s : State) : State :=
  match s.runner.point with
  | .handOut (some cause) => enterHalted (some cause) s
  | _ => if anyResult c then { s with runner := { s.runner with point := .ask .finalTrim } } else completeSearch s

/-- The handing out goes on while a site's handling is to come (R118, R119). -/
def handOutOn (c : Search) (s : State) : State := if c.outstanding == 0 then afterResults c s else s

/-- One piece of the handing out: the handling of the lowest-numbered site whose handling is to come (R118), with the
stop that it may bring reported (R83, R137). A disable may come between two of them (R120). -/
def handOutNext (s : State) : State :=
  match s.search with
  | some c =>
    match (membersInOrder c.outstanding).head? with
    | some i =>
      let c' := { c with outstanding := c.outstanding.without i }
      handOutOn c' (takeStop (handOutSite c' { s with search := some c' } i))
    | none => afterResults c s
  | none => { s with runner := { s.runner with point := .rest } }

/-- The context with the results of its member sites formed, all at once (R116, R118). -/
def Search.formResults (c : Search) (s : State) : Search :=
  { c with
    phase := .final
    results := Table.ofFn fun i => if c.members.has i then resultCode c i s else none
    outstanding := c.members }

/-- The search's trials are done: the results are formed, and their handing out begins (R116, R118). -/
def finishTrials (c : Search) (s : State) : State :=
  let c' := c.formResults s
  handOutOn c' { s with search := some c', runner := { s.runner with point := .handOut none } }

/-- A further trial: the body is run again from index s + 1 (R114, R14). The votes of the closed trial are absent
again (log entry 20). The trial codes stay those of the closed trial until the next one begins (DESIGN CHOICE, log
entry 42). -/
def nextTrial (c : Search) (set : SiteSet) (s : State) : State :=
  { s with
    search := some { c with phase := .body, trial := c.trial + 1, trialSet := set, localVote := none, combined := none }
    runner := { s.runner with stepIndex := c.step + 1, point := .boundary } }

/-- The member sites whose first W trials all failed (R114). -/
def allFailedSet (c : Search) : SiteSet :=
  SiteSet.ofPred fun i => c.members.has i && c.values.get i == maxValue c.fields.bits

/-- The decision after the close of a trial (R114). -/
def decideNext (c : Search) (s : State) : State :=
  if c.trial < c.fields.bits then nextTrial c c.trialSet s
  else if c.trial == c.fields.bits then
    match c.fields.scope with
    | .site => if allFailedSet c == 0 then finishTrials c s else nextTrial c (allFailedSet c) s
    | .mainframe =>
      if c.stationValue == maxValue c.fields.bits then nextTrial c c.members s else finishTrials c s
  else finishTrials c s

/-- The TRIAL_RESULT record of a site at the close of a trial of SITE scope (R115). -/
def offerTrialResult (c : Search) (s : State) (i : SiteId) : State :=
  offer (.trialResult { step := c.step, site := some i, trial := c.trial, code := (c.codes.get i).getD 0,
                        verdict := (s.site i).verdict, localVote := none, barrier := none }) s

/-- The close of a trial of SITE scope: verdicts read, values updated, records offered, then the decision (R112,
R114, R115). -/
def closeSiteTrial (c : Search) (s : State) : State :=
  let c' : Search :=
    { c with
      values := Table.ofFn fun i =>
        if c.trialSet.has i then valueAfter c.fields.bits c.trial (c.values.get i) (s.site i).verdict
        else c.values.get i }
  decideNext c' ((membersInOrder c.trialSet).foldl (offerTrialResult c') { s with search := some c' })

/-- The close of a trial of MAINFRAME scope at its barrier's passing: the combined verdict moves r, one record is
offered, then the decision (R113, R114, R115). -/
def trialPassed (combined : Verdict) (barrier : Nat) (s : State) : State :=
  match s.search with
  | some c =>
    let c' : Search :=
      { c with combined := some combined,
               stationValue := valueAfter c.fields.bits c.trial c.stationValue combined }
    decideNext c'
      (offer (.trialResult { step := c.step, site := none, trial := c.trial, code := c.stationCode.getD 0,
                             verdict := combined, localVote := c.localVote, barrier := some barrier })
        { s with search := some c' })
  | none => s

/-! ## Barriers (R16, R131, R132, R133) -/

/-- The label of the step at the step index; 0 where there is none. -/
def currentLabel (s : State) : Nat := ((stepAt s.plan s.runner.stepIndex).map PlanStep.label).getD 0

/-- The MARK_PASSED record of a passing (R142). -/
def markPassedRecord (kind : BarrierKind) (sampled : Verdict) (waited : Nat) (s : State) : MarkPassedRec :=
  { barrier := s.tie.barrier, kind := kind, step := s.runner.stepIndex
    label := match kind with
      | .rendezvous => some (currentLabel s)
      | _ => none
    vote := match kind with
      | .trial => s.tie.vote
      | _ => none
    sampled := sampled, waited := min (waited / 1000) 65535 }

/-- The Tie Port record after a passing (R132, steps 1 to 4): a veto pulled at this barrier becomes the held veto. -/
def Tie.pass (t : Tie) (w : Wait) (sampled : Verdict) : Tie :=
  { t with
    sampledVeto := some sampled
    heldVeto := if w.kind == .trial && t.vote == some .fail then some w.line else none
    timer := none
    wait := none
    barrier := (t.barrier + 1) % 65536 }

/-- What the runner does when a barrier has been passed (R16). -/
def afterBarrier (kind : BarrierKind) (sampled : Verdict) (barrier : Nat) (s : State) : State :=
  match kind with
  | .start => { s with runner := { s.runner with point := .boundary } }
  | .rendezvous => workDone s
  | .trial => trialPassed sampled barrier s

/-- Pass the barrier waited at (R132, R133, R16). -/
def passBarrier (w : Wait) (sampled : Verdict) (waited : Nat) (s : State) : State :=
  let record := markPassedRecord w.kind sampled waited s
  let s1 : State := { s with tie := s.tie.pass w sampled, runner := { s.runner with state := .running } }
  let s2 := if s.setup.markRecord then offer (.markPassed record) s1 else s1
  afterBarrier w.kind sampled s.tie.barrier s2

/-- The Tie Port record after an arrival at an enlisted station (R131); the record of a station that is not enlisted
changes alike but starts no timer (R133). -/
def Tie.arrive (t : Tie) (kind : BarrierKind) (vote : Option Verdict) (timeout : Nat) : Tie :=
  let p := parityOf t.barrier
  { t with
    wait := some { kind := kind, line := p, waited := 0 }
    vote := vote
    markE := p == .odd
    markO := p == .even
    timer := if t.enlistment == .enlisted && timeout != 0 then some 0 else none }

/-- Arrive at the next barrier: an enlisted station waits in AT_MARK, another passes at once with its own vote, or
PASS (R131, R133). -/
def arrive (kind : BarrierKind) (vote : Option Verdict) (s : State) : State :=
  let s1 : State :=
    { s with
      tie := s.tie.arrive kind vote s.setup.rendezvousTimeout
      runner := { s.runner with state := .atMark, point := .mark } }
  if s.isEnlisted then s1
  else passBarrier { kind := kind, line := parityOf s.tie.barrier, waited := 0 } (vote.getD .pass) 0 s1

/-- The local vote: FAIL when a site of the trial set has its flag set (R113). -/
def localVote (c : Search) (s : State) : Verdict :=
  if allSites.any fun i => c.trialSet.has i && (s.site i).trialFailed then .fail else .pass

/-- The close of a trial (R112, R113): the headroom test first. -/
def closeTrial (s : State) : State :=
  if s.headroomShort then enterLogStall s
  else
    match s.search with
    | some c =>
      match c.fields.scope with
      | .site => closeSiteTrial c s
      | .mainframe =>
        let vote := localVote c s
        arrive .trial (some vote) { s with search := some { c with phase := .vote, localVote := some vote, combined := none } }
    | none => { s with runner := { s.runner with point := .rest } }

/-! ## Steps and boundaries (R11, R13, R15) -/

/-- A REPEAT step (R15). -/
def repeatWork (span count : Nat) (s : State) : State :=
  let context := s.runner.repeatContext.getD { index := s.runner.stepIndex, passes := count - 1 }
  if context.passes == 0 then completeStep { s with runner := { s.runner with repeatContext := none } }
  else
    { s with runner := { s.runner with
        repeatContext := some { context with passes := context.passes - 1 }
        stepIndex := s.runner.stepIndex - span
        point := .boundary } }

/-- The work of the kind of the step at the step index (R13). -/
def stepWork (s : State) : State :=
  match stepAt s.plan s.runner.stepIndex with
  | some step =>
    match step.body with
    | .endStep => enterDone .endStep s
    | .sweep f =>
      { s with sweep := some { fields := f, position := none, successor := some (firstPosition f) }
               runner := { s.runner with point := .ask .sweep } }
    | .poll _ _ _ _ => { s with runner := { s.runner with point := .ask .poll } }
    | .trim _ _ => { s with runner := { s.runner with point := .ask .trim } }
    | .search f =>
      { s with search := some (newSearch f s)
               runner := { s.runner with stepIndex := s.runner.stepIndex + 1, point := .begin } }
    | .rendezvous => arrive .rendezvous none s
    | .repeatStep span count => repeatWork span count s
    | .marker => workDone (offer (.markerRec s.runner.stepIndex step.label) s)
  | none => { s with runner := { s.runner with point := .rest } }

/-- The step at the step index begins (R13, R14): current sets cleared, STEP_BEGIN with the note flag, then its work;
the first body step of a search begins a trial (R110). -/
def beginStep (s : State) : State :=
  let s1 := clearCurrent s
  match stepAt s.plan s.runner.stepIndex with
  | some step =>
    let s2 := if step.note then offer (.stepBegin s.runner.stepIndex step.label) s1 else s1
    match s.search with
    | some c =>
      if c.phase == .body && s.runner.stepIndex == c.step + 1 then beginTrial c s2 else stepWork s2
    | none => stepWork s2
  | none => { s1 with runner := { s1.runner with point := .rest } }

/-- Past the boundary: a single step becomes the pending pause, and the step begins (R11). -/
def passBoundary (s : State) : State :=
  { s with runner := { s.runner with pendingPause := s.runner.pendingPause || s.runner.singleStep, singleStep := false,
                                     point := .begin } }

/-- Enter PAUSED (R11). -/
def enterPaused (s : State) : State :=
  setCause .paused { s with runner := { s.runner with state := .paused, pendingPause := false } }

/-- The checks at a boundary, in order: pending pause, headroom, stop in force (R11). -/
def boundary (s : State) : State :=
  if s.runner.pendingPause then enterPaused s
  else if s.headroomShort then enterLogStall s
  else
    match s.tie.stop with
    | some cause => enterHalted (some cause) s
    | none => passBoundary s

/-! ## The runner's work, piece by piece -/

/-- Whether the runner has work at hand that waits for nothing. -/
def State.busy (s : State) : Bool :=
  s.runner.state == .running &&
    match s.runner.point with
    | .boundary => true
    | .begin => true
    | .work => true
    | .ask _ => true
    | .close => true
    | .handOut _ => true
    | .rest => false
    | .inRound _ => false
    | .mark => false

/-- One piece of the runner's work. -/
def advance (s : State) : State :=
  match s.runner.point with
  | .boundary => boundary s
  | .begin => beginStep s
  | .work => stepWork s
  | .ask a => askRound a s
  | .close => closeTrial s
  | .handOut _ => handOutNext s
  | .rest => s
  | .inRound _ => s
  | .mark => s

/-- The runner's work until it waits, in at most `bound` pieces. -/
def settleWithin (bound : Nat) (s : State) : State :=
  match bound with
  | 0 => s
  | bound + 1 => if s.busy then settleWithin bound (advance s) else s

/-- The runner's work until it waits for an event: what has been done before an event that only this work brings about
(log entries 8 and 39). -/
def settle (s : State) : State := settleWithin Config.settleBound s

end Sys2Proof.Machine
end

