-- ==== Sys2Proof/Machine/SiteEvents.lean ====
section
/-! DEFINITION. The events of the site ports and of the sites' timers: ISSUE, POLL_TIMER_EXPIRY, STATUS_RESULT,
DEADLINE_EXPIRY, READ_BYTE, DATA_PART_END, DISCARDED_TRANSACTION_END (chapters 3 and 4), with the Capture Filters
(section 9.8) and the handling of an event (R81). -/
namespace Sys2Proof.Machine

/-! ## Capture Filters (R156, R157) -/

/-- An event that the filters classify: a page outcome, or an operation failure with its matched status. -/
inductive SiteEvent where
  | outcome (o : PageOutcome)
  | opFailure (status : Byte)
  deriving DecidableEq, Repr

/-- The page total of an event; an operation failure has 0 (R156). -/
def SiteEvent.total (e : SiteEvent) : Nat :=
  match e with
  | .outcome o => o.total
  | .opFailure _ => 0

/-- The condition an event names (R70, R49). -/
def SiteEvent.condition (e : SiteEvent) : Condition :=
  match e with
  | .outcome o =>
    match o.kind with
    | .pageFail => .pageFail
    | _ => .dataFail
  | .opFailure _ => .opFail

/-- The page test of a filter (R156). -/
def Filter.pageTest (f : Filter) (page : Option Nat) : Bool :=
  match page with
  | some p => (BitVec.ofNat 9 p &&& f.pageMask) == (f.pageValue &&& f.pageMask)
  | none => f.pageMask == 0

/-- Whether a filter matches an event (R156). -/
def Filter.matchesEvent (f : Filter) (i : SiteId) (block : Nat) (page : Option Nat) (total : Nat) : Bool :=
  f.enabled && f.sites.has i && (BitVec.ofNat 12 block &&& f.blockMask) == (f.blockValue &&& f.blockMask) &&
    f.pageTest page && f.minTotal ≤ total

/-- The lowest-numbered filter that matches an event (R157). -/
def decidingFilter (filters : Table 4 Filter) (i : SiteId) (block : Nat) (page : Option Nat) (total : Nat) :
    Option (Fin 4) :=
  (List.finRange 4).find? fun f => (filters.get f).matchesEvent i block page total

/-- The action of an event: its deciding filter's, else the Setup default (R157). -/
def classify (s : State) (decider : Option (Fin 4)) : Action :=
  match decider with
  | some f => (s.filters.get f).action
  | none => if s.setup.defaultLog then .log else .ignore

/-! ## Handling (R81, R86, R153, R158, R159) -/

/-- The source of a page-fail record (R153). -/
def eventSource (e : SiteEvent) (kind : PageKind) : Source :=
  match e, kind with
  | .outcome _, _ => .readData
  | .opFailure _, .erase => .eraseStatus
  | .opFailure _, .program => .programStatus
  | .opFailure _, .read => .readStatus

/-- The page-fail record of an event (R153). -/
def pageFailRecord (i : SiteId) (e : SiteEvent) (p : Position) (decider : Option (Fin 4)) (trialCode : Option Nat)
    (s : State) : PageFailRec :=
  { site := i, block := p.block, page := p.page, step := s.runner.stepIndex, source := eventSource e p.kind
    outcome := e.condition
    figures := match e with
      | .outcome o => some o
      | .opFailure _ => none
    status := match e with
      | .outcome _ => none
      | .opFailure status => some status
    filter := decider.map Fin.val
    trialCode := trialCode.map toByte }

/-- The totals of a failing page outcome (R71, R72). -/
def Site.addOutcome (x : Site) (o : PageOutcome) (block page : Nat) : Site :=
  { x with
    failBits := min (x.failBits + o.total) 4294967295
    failedPages := min (x.failedPages + 1) 65535
    worst := max x.worst o.worstTally
    firstFail := match x.firstFail with
      | some f => some f
      | none => some { block := block, page := page } }

/-- Step 2 of a handling: the totals, for a page outcome (R81). -/
def updateTotals (i : SiteId) (e : SiteEvent) (p : Position) (s : State) : State :=
  match e with
  | .outcome o => modifySite i (fun x => x.addOutcome o p.block (p.page.getD 0)) s
  | .opFailure _ => s

/-- The cause of the listing request that an event makes, if it makes one (R97). -/
def listingCause (e : SiteEvent) (kind : PageKind) : Option ListCause :=
  match e with
  | .outcome o =>
    match o.kind with
    | .pageFail => some .pageFail
    | _ => none
  | .opFailure _ =>
    match kind with
    | .read => none
    | _ => some .opFail

/-- Step 3 of a handling: the listing request; the answer says whether BAD_LIMIT was raised (R81, R97, R98). -/
def listEvent (i : SiteId) (e : SiteEvent) (p : Position) (s : State) : State × Bool :=
  match listingCause e p.kind with
  | some cause => requestListing i p.block p.page cause s
  | none => (s, false)

/-- The handling of an event in full, outside trial mode: the six steps of R81. -/
def handleFull (i : SiteId) (e : SiteEvent) (p : Position) (action : Action) (decider : Option (Fin 4)) (s : State) :
    State :=
  let s1 := raise e.condition i s
  let s2 := updateTotals i e p s1
  let s3 := listEvent i e p s2
  let s4 := offer (.pageFail (pageFailRecord i e p decider none s3.1)) s3.1
  let s5 := stopTest (if s3.2 then [e.condition, .badLimit] else [e.condition]) i (some p.block) p.page s4
  filterAction action i (some p.block) p.page s5

/-- A trial event at the Site Table: the trial-failed flag is set when the condition is in the trial-fail set, and
the event is dropped otherwise (R86). -/
def trialEvent (i : SiteId) (c : Condition) (s : State) : State :=
  match s.search with
  | some x => if x.fields.failSet.has c then modifySite i (fun r => { r with trialFailed := true }) s else s
  | none => s

/-- Whether trial events offer page-fail records (R153, R159). -/
def State.logsTrials (s : State) : Bool :=
  match s.search with
  | some x => x.fields.logTrials
  | none => false

/-- The trial code that a trial event of a site carries (R52, R111). -/
def State.trialCode (s : State) (i : SiteId) : Option Nat := s.search.bind fun x => x.codeFor i

/-- The handling of an event that carries the trial mark (R86, R159). -/
def handleTrial (i : SiteId) (e : SiteEvent) (p : Position) (decider : Option (Fin 4)) (s : State) : State :=
  let s1 := trialEvent i e.condition s
  if s.logsTrials then offer (.pageFail (pageFailRecord i e p decider (s.trialCode i) s1)) s1 else s1

/-- An event classified by the filters and handled by its action (R157, R158, R159). -/
def handleEvent (i : SiteId) (e : SiteEvent) (p : Position) (trial : Bool) (s : State) : State :=
  let decider := decidingFilter s.filters i p.block p.page e.total
  match classify s decider with
  | .ignore => s
  | action => if trial then handleTrial i e p decider s else handleFull i e p action decider s

/-- The handling of a READY_TIMEOUT: steps 1 and 5 of R81, or a trial event (R48, R81, R86). -/
def handleTimeout (i : SiteId) (block page : Option Nat) (trial : Bool) (s : State) : State :=
  if trial then trialEvent i .readyTimeout s
  else stopTest [.readyTimeout] i block page (raise .readyTimeout i s)

/-! ## A site's part in a round -/

/-- The site's part ends: WAITING becomes ACTIVE, the phase absent (R78). -/
def Site.leaveRound (x : Site) : Site :=
  { x with state := if x.state == .waiting then .active else x.state, phase := none }

/-- The end of a site's part: a stop its handling brought is taken by the runner (log entry 10), the site leaves the
round, and the round ends when no participant is WAITING (R52, R56, R78). What the runner does after the round is work
at hand, which a stop or an ABORT may come before (R17, R22). -/
def endPart (i : SiteId) (s : State) : State := endRoundIfDone (modifySite i Site.leaveRound (takeStop s))

/-- The port of a site. -/
def State.port (s : State) (i : SiteId) : Port := s.ports.get i

/-- The state with a site's port replaced. -/
def setPort (i : SiteId) (p : Port) (s : State) : State := { s with ports := s.ports.set i p }

/-- A port after its transaction has ended: idle, or busy with the one queued behind it (R41). -/
def Port.ended (p : Port) : Port :=
  { current := p.queued.map fun tx => { tx := tx, live := true }, queued := none }

/-- The state with a site's timers replaced. -/
def setClocks (i : SiteId) (c : Clocks) (s : State) : State := { s with clocks := s.clocks.set i c }

/-- Whether the port carries a discarded transaction. -/
def Port.discarding (p : Port) : Bool :=
  match p.current with
  | some t => !t.live
  | none => false

/-- What the report of a port is about: the round's transaction sent, a status byte, or the data part's end. -/
inductive PortReport where
  | sent | status | data
  deriving DecidableEq, Repr

/-- The report that a transaction ends with (R41, R44, R45, R51). -/
def Tx.report (tx : Tx) : PortReport :=
  match tx with
  | .page _ _ => .sent
  | .program _ _ => .sent
  | .setparam _ _ => .sent
  | .status => .status
  | .readData _ => .data

/-- Whether the port carries a discarded transaction that ends with this report. -/
def Port.discards (p : Port) (r : PortReport) : Bool :=
  match p.current with
  | some t => !t.live && t.tx.report == r
  | none => false

/-- Whether the port carries a live transaction that ends with this report. -/
def Port.reports (p : Port) (r : PortReport) : Bool :=
  match p.current with
  | some t => t.live && t.tx.report == r
  | none => false

/-- The round in flight is a POLL round. -/
def State.inPollRound (s : State) : Bool :=
  match s.round with
  | some r =>
    match r.work with
    | .poll _ _ _ _ => true
    | _ => false
  | none => false

/-- The RANDOM state of a site's stream when its port's transaction has ended: a PROGRAM that has ended leaves none,
and one that begins keeps the state it was formed with (R35; log entry 31). -/
def streamEnded (i : SiteId) (s : State) : Option Word :=
  if (s.port i).programming && !(s.port i).ended.programming then none else s.streams.get i

/-- A discarded transaction ends: its result is dropped, and the port becomes idle or begins the transaction queued
behind it (R41). A POLL round's first status read begins so, its poll timer started afresh (R53, log entry 11). -/
def endDiscarded (i : SiteId) (s : State) : State :=
  let s1 : State := { setPort i (s.port i).ended s with streams := s.streams.set i (streamEnded i s) }
  if s.inPollRound && (s.port i).queued == some .status then
    setClocks i { s.clocks.get i with poll := some (Timer.start s.setup.pollInterval) } s1
  else s1

/-- DISCARDED_TRANSACTION_END (R41): without a discarded transaction at the port nothing changes. -/
def discardedEnd (i : SiteId) (s : State) : State := if (s.port i).discarding then endDiscarded i s else s

/-- ISSUE at a port that carries the round's transaction live: for SETPARAM the site's part ends, otherwise the
site's timers start (R44, R55). -/
def issueLive (i : SiteId) (r : Round) (s : State) : State :=
  let s1 : State := { setPort i (s.port i).ended s with streams := s.streams.set i none }
  match r.work with
  | .setparam _ _ => endPart i s1
  | _ => setClocks i (clocksAtIssue s.setup r.work) s1

/-- ISSUE with the runner's work done: at a port that carries no transaction of the round nothing changes. -/
def issueSettled (i : SiteId) (s : State) : State :=
  match s.round with
  | some r => if (s.port i).reports .sent && s.isWaiting i then issueLive i r s else s
  | none => s

/-- ISSUE (R44): at a port whose transaction is discarded it is that transaction's end (R41, log entry 6). Any other is
the issue of a transaction that the runner's work has begun (log entry 39). -/
def issueEvent (i : SiteId) (s : State) : State :=
  if (s.port i).discards .sent then endDiscarded i s else issueSettled i (settle s)

/-- The expiry of a poll timer (R45): the timer stops and the port begins a STATUS transaction; a busy port begins none
(log entry 11). A timer that does not run does not expire. -/
def pollExpiry (i : SiteId) (s : State) : State :=
  match (s.clocks.get i).poll with
  | some _ =>
    let s1 := setClocks i { s.clocks.get i with poll := none } s
    match (s.port i).current with
    | none => setPort i { s.port i with current := some { tx := .status, live := true } } s1
    | some _ => s1
  | none => s

/-- Whether a status byte matches (R45). -/
def statusMatches (g : Setup) (w : RoundWork) (status : Byte) : Bool :=
  match w with
  | .poll mask expected _ _ => (status &&& mask) == expected
  | _ => (status &&& g.readyMask) == g.readyValue

/-- The match count of a round (R45). -/
def roundMatchCount (g : Setup) (w : RoundWork) : Nat :=
  match w with
  | .poll _ _ count _ => count
  | _ => g.matchCount

/-- The op-result check (R49, R50): whether the matched status says that the operation failed. -/
def opFailed (g : Setup) (status : Byte) : Bool := (status &&& g.failMask) != 0

/-- The data part of a READ begins: the phase, the port, the tally record and the stream (R51, R62, R35). -/
def beginData (i : SiteId) (r : Round) (p : Position) (s : State) : State :=
  { s with
    sites := s.sites.modify i fun x => { x with phase := some .awaitData }
    ports := s.ports.set i { s.port i with current := some { tx := .readData p, live := true } }
    tallies := s.tallies.set i (some {
      block := p.block, page := p.page.getD 0
      trialCode := if r.trial then (s.trialCode i).map toByte else none
      taken := 0
      sums := List.replicate (codewordCount s.setup.pageBytes s.setup.codewordBytes) 0 })
    streams := s.streams.set i (s.sweep.bind fun w => streamStart w.fields s.setup.pagesPerBlock p) }

/-- A site becomes ready with its matched status (R46, R49, R50, R51, R53). -/
def siteReady (i : SiteId) (r : Round) (status : Byte) (s : State) : State :=
  let s1 := setClocks i Clocks.stopped s
  match r.work with
  | .page p _ =>
    if opFailed s.setup status then endPart i (handleEvent i (.opFailure status) p r.trial s1)
    else
      match p.kind with
      | .read => beginData i r p s1
      | _ => endPart i s1
  | _ => endPart i s1

/-- A live status result at a WAITING site: the run count, and ready or the next poll interval (R45, R46). -/
def statusLive (i : SiteId) (r : Round) (status : Byte) (s : State) : State :=
  let count := if statusMatches s.setup r.work status then (s.site i).runCount + 1 else 0
  let s1 := modifySite i (fun x => { x with runCount := count }) (setPort i (s.port i).ended s)
  if count == roundMatchCount s.setup r.work then siteReady i r status s1
  else setClocks i { s.clocks.get i with poll := some (Timer.start s.setup.pollInterval) } s1

/-- Whether a site awaits ready in the round in flight. -/
def State.awaitsReady (s : State) (i : SiteId) : Bool := s.isWaiting i && (s.site i).phase == some .awaitReady

/-- STATUS_RESULT with the runner's work done: at a port that carries no live STATUS nothing changes. -/
def statusSettled (i : SiteId) (status : Byte) (s : State) : State :=
  match s.round with
  | some r => if (s.port i).reports .status && s.awaitsReady i then statusLive i r status s else s
  | none => s

/-- STATUS_RESULT (R45): at a port whose STATUS transaction is discarded the result is dropped (R41, R48, log
entry 6). Any other comes of a round that the runner's work has formed (log entry 39). -/
def statusEvent (i : SiteId) (status : Byte) (s : State) : State :=
  if (s.port i).discards .status then endDiscarded i s else statusSettled i status (settle s)

/-- A port whose site has left the round: a live transaction becomes discarded, and a queued one is dropped (R41,
R48, R57). -/
def Port.abandonSite (p : Port) : Port :=
  { current := p.current.map fun t => { t with live := false }, queued := none }

/-- The block that a round names: a page round's (R40). -/
def RoundWork.block (w : RoundWork) : Option Nat :=
  match w with
  | .page p _ => some p.block
  | _ => none

/-- The page that a round names: a PROGRAM or READ round's (R40). -/
def RoundWork.page? (w : RoundWork) : Option Nat :=
  match w with
  | .page p _ => p.page
  | _ => none

/-- DEADLINE_EXPIRY at a WAITING site (R48): timers stopped, a STATUS in progress discarded, READY_TIMEOUT handled,
the site's part ended. -/
def deadlineLive (i : SiteId) (r : Round) (s : State) : State :=
  let s1 := setPort i (s.port i).abandonSite (setClocks i Clocks.stopped s)
  endPart i (handleTimeout i r.work.block r.work.page? r.trial s1)

/-- The expiry of a deadline (R48). A deadline that does not run does not expire (R46). -/
def deadlineEvent (i : SiteId) (s : State) : State :=
  match (s.clocks.get i).deadline, s.round with
  | some _, some r => if s.isWaiting i then deadlineLive i r s else s
  | _, _ => s

/-- One byte tallied against the byte the ADG expects at its offset (R63, R65, R35). -/
def tallyByte (i : SiteId) (f : SweepFields) (t : Tally) (byte : Byte) (s : State) : State :=
  let state := (s.streams.get i).map randomNext
  let expected := expectedByte f s.setup.pagesPerBlock t.block t.page t.taken (state.getD 0)
  { s with
    tallies := s.tallies.set i (some (t.add s.setup.codewordBytes (contribution byte expected f.careMask)))
    streams := s.streams.set i state }

/-- READ_BYTE (R65): a byte of a discarded data part, or past the page's last byte, changes nothing (R69). -/
def readByteEvent (i : SiteId) (byte : Byte) (s : State) : State :=
  match s.tallies.get i, s.sweep with
  | some t, some w =>
    if (s.port i).reports .data && t.taken < s.setup.pageBytes then tallyByte i w.fields t byte s else s
  | _, _ => s

/-- The page outcome of a site and its handling (R51, R67, R70). -/
def outcomeFormed (i : SiteId) (r : Round) (t : Tally) (p : Position) (s : State) : State :=
  let o := formOutcome s.setup.threshold t.sums
  let s1 : State :=
    { setPort i (s.port i).ended s with tallies := s.tallies.set i none, streams := s.streams.set i none }
  match o.kind with
  | .clean => endPart i s1
  | _ => endPart i (handleEvent i (.outcome o) p r.trial s1)

/-- DATA_PART_END (R51, R65): all P bytes have been tallied. At a port whose data part is discarded it is that
transaction's end (R41, log entry 6). -/
def dataEndEvent (i : SiteId) (s : State) : State :=
  if (s.port i).discards .data then endDiscarded i s
  else
    match s.tallies.get i, s.round with
    | some t, some r =>
      match r.work with
      | .page p _ =>
        if (s.port i).reports .data && s.isWaiting i && t.taken == s.setup.pageBytes then outcomeFormed i r t p s else s
      | _ => s
    | _, _ => s

/-! ## The meanings -/

/-- ISSUE (R44, R55). -/
def execIssue (site : SiteId) (s : State) : Result := .next (issueEvent site s)

/-- POLL_TIMER_EXPIRY (R45): of a timer that the runner's work has started (log entry 39). -/
def execPollTimerExpiry (site : SiteId) (s : State) : Result := .next (pollExpiry site (settle s))

/-- STATUS_RESULT (R45, R46). -/
def execStatusResult (site : SiteId) (status : Byte) (s : State) : Result := .next (statusEvent site status s)

/-- DEADLINE_EXPIRY (R48): of a timer that the runner's work has started (log entry 39). -/
def execDeadlineExpiry (site : SiteId) (s : State) : Result := .next (deadlineEvent site (settle s))

/-- READ_BYTE (R65). -/
def execReadByte (site : SiteId) (byte : Byte) (s : State) : Result := .next (readByteEvent site byte s)

/-- DATA_PART_END (R51, R67). -/
def execDataPartEnd (site : SiteId) (s : State) : Result := .next (dataEndEvent site s)

/-- DISCARDED_TRANSACTION_END (R41). -/
def execDiscardedTransactionEnd (site : SiteId) (s : State) : Result := .next (discardedEnd site s)

end Sys2Proof.Machine
end

