-- ==== Sys2Proof/Machine/BusEvents.lean ====
section
/-! DEFINITION. The events of the tie bus and of its timer: BARRIER_PASS, RENDEZVOUS_TIMEOUT, STOP_FALL, STOP_RISE;
and POWER_ON_RESET (chapter 8). -/
namespace Sys2Proof.Machine

/-- The veto that an enlisted station samples at the rise: FAIL when the line of the barrier's parity is low, by
another station's pull or by its own (R132, step 1). -/
def sampleVeto (t : Tie) (line : Parity) (peerVeto : Bool) : Verdict :=
  if peerVeto || t.vetoDrive line then .fail else .pass

/-- A rise of a mark line: an enlisted station that waits at a barrier passes it (R132); a rise that finds no wait is no
passing (R134). A stop that comes next finds the runner RUNNING with no round in flight (R16, R138). -/
def barrierEvent (peerVeto : Bool) (s : State) : State :=
  match s.tie.wait with
  | some w => if s.isEnlisted then passBarrier w (sampleVeto s.tie w.line peerVeto) w.waited s else s
  | none => s

/-- The expiry of the rendezvous timer: the running timer expires and the Tie Port asks for an own pull with cause OWN_TIMEOUT
(R134). A timer that does not run does not expire. -/
def timeoutEvent (s : State) : State :=
  match s.tie.timer with
  | some _ => takeStop (requestPull .ownTimeout s)
  | none => s

/-- STOP_FALL: another station pulls STOP; taken while no stop is in force it begins one with cause PEER_STOP
(R137). -/
def stopFallEvent (s : State) : State :=
  match s.tie.stop with
  | some _ => { s with tie := { s.tie with peerStop := true } }
  | none => takeStop { s with tie := { s.tie with peerStop := true, stop := some .peerStop, reported := false } }

/-- STOP_RISE: no other station pulls STOP; the stop in force ends when the own pull is absent (R137). -/
def stopRiseEvent (s : State) : State :=
  match s.tie.ownPull with
  | some _ => { s with tie := { s.tie with peerStop := false } }
  | none => { s with tie := { s.tie with peerStop := false, stop := none, reported := false } }

/-- POWER_ON_RESET: every block takes its power-on values, the straps are read, and STOP is sensed (R127, R137,
R141). The commands still waiting and the counter of the free values are not the part's. -/
def powerOn (straps : BitVec 4) (s : State) : State :=
  { State.reset with tie := Tie.reset straps s.tie.peerStop, free := s.free, pending := s.pending }

/-! ## The meanings -/

/-- BARRIER_PASS (R132): the rise follows an arrival, which the runner's work makes (log entry 39). -/
def execBarrierPass (peerVeto : Bool) (s : State) : Result := .next (barrierEvent peerVeto (settle s))

/-- RENDEZVOUS_TIMEOUT (R134): of a timer that an arrival has started (log entry 39). -/
def execRendezvousTimeout (s : State) : Result := .next (timeoutEvent (settle s))

/-- STOP_FALL (R137). -/
def execStopFall (s : State) : Result := .next (stopFallEvent s)

/-- STOP_RISE (R137). -/
def execStopRise (s : State) : Result := .next (stopRiseEvent s)

/-- POWER_ON_RESET (R141). -/
def execPowerOnReset (straps : BitVec 4) (s : State) : Result := .next (powerOn straps s)

end Sys2Proof.Machine
end

