-- ==== Sys2Proof/Machine/Layouts.lean ====
section
/-! DEFINITION. What the link shows: the words of every area as a READ returns them (R166, R171, R172), and the eight
words of a log record (R174). -/
namespace Sys2Proof.Machine

/-! ## Fields of a word -/

/-- A number placed at a bit position of a word. -/
def fld (n shift : Nat) : Word := toWord n <<< shift

/-- The words of a list, joined bit by bit. -/
def joined (ws : List Word) : Word := ws.foldl (· ||| ·) 0

/-- The contents of a field shown as absent: "its contents are then to be disregarded" (00_scope.md). They are free
bits under the field's mask (log entry 13); a field that is present adds none. -/
def absentBits (s : State) (place : Nat) (present : Bool) (mask : Word) : Word :=
  if present then 0 else Config.freeWord s.free place &&& mask

/-- The area codes that name an area, with the area's size in words (R172). -/
def areaSize (area : Nat) : Option Nat :=
  match area with
  | 1 => some 4096
  | 2 => some 27
  | 3 => some 64
  | 4 => some 512
  | 5 => some 4128
  | 6 => some 32
  | 7 => some 29
  | _ => none

/-- The entry of a table at a number, the first one where the number is past the table's end (no caller reaches
past it: each index of an area is judged first). -/
def Table.at {n : Nat} {α : Type} (t : Table (n + 1) α) (i : Nat) : α :=
  t.get ⟨i % (n + 1), Nat.mod_lt _ (Nat.succ_pos n)⟩

/-! ## PLAN, SETUP, SITE_CFG, FILTERS (R165, R171, R172) -/

/-- A word of PLAN: word i is word i mod 16 of step record i / 16 (R172). -/
def planWord (s : State) (i : Nat) : Word := Table.at (n := 15) (Table.at (n := 255) s.plan (i / 16)) (i % 16)

/-- The high word of a number of two words. -/
def highWord (n : Nat) : Word := toWord (n / 65536)

/-- The 27 words of SETUP, as stored (R171). -/
def setupWords (g : Setup) : List Word :=
  [ toWord g.blocksPerDie, toWord g.pagesPerBlock, toWord g.pageBytes, toWord g.codewordBytes, toWord g.threshold,
    toWord g.matchCount, toWord g.pollInterval, toWord g.readyMask.toNat, toWord g.readyValue.toNat,
    toWord g.failMask.toNat, highWord g.readDeadline, toWord g.readDeadline, highWord g.programDeadline,
    toWord g.programDeadline, highWord g.eraseDeadline, toWord g.eraseDeadline, toWord g.siteStop.toNat,
    toWord g.mainframeStop.toNat, toWord g.listLimit, toWord g.rendezvousTimeout, toWord (bit g.markRecord),
    toWord g.logMode.code, toWord g.logPolicy.code, toWord (bit g.freeze), toWord g.watermark,
    toWord (bit g.defaultLog), toWord g.enables.toNat ]

/-- A word of SITE_CFG: the enabled flag at 2s, the trim code at 2s + 1 (R172). -/
def siteCfgWord (s : State) (i : Nat) : Word :=
  let x := Table.at (n := 31) s.sites (i / 2)
  if i % 2 == 0 then toWord (bit x.enabled) else toWord x.trim.toNat

/-- The eight words of a filter record (R172). -/
def filterWords (f : Filter) : List Word :=
  [ toWord (bit f.enabled) ||| fld f.action.code 8, highWord f.sites.toNat, toWord f.sites.toNat,
    toWord f.blockValue.toNat, toWord f.blockMask.toNat, toWord f.pageValue.toNat, toWord f.pageMask.toNat,
    toWord f.minTotal ]

/-- A word of FILTERS (R172). -/
def filterWord (s : State) (i : Nat) : Word := (filterWords (Table.at (n := 3) s.filters (i / 8))).getD (i % 8) 0

/-! ## SITE_RESULT and BADLIST (R93, R106, R172) -/

/-- A word of SITE_RESULT (R172). -/
def siteResultWord (s : State) (i : Nat) : Word :=
  let x := Table.at (n := 31) s.sites (i / 16)
  let place := 4 * 65536 + i
  match i % 16 with
  | 0 =>
    joined [fld x.state.code 0, fld (phaseCode x.phase) 2, fld (x.runCount % 8) 4, fld (bit x.trialFailed) 7,
      fld (bit x.reject.isSome) 8, fld (bit x.firstFail.isSome) 9, fld (bit x.result.isSome) 10]
  | 1 => pack x.accrued.toNat x.current.toNat
  | 2 =>
    ((x.reject.map fun r => pack r.cause.bit r.step).getD 0) ||| absentBits s place x.reject.isSome 65535
  | 3 => toWord ((x.firstFail.map FirstFail.block).getD 0) ||| absentBits s place x.firstFail.isSome 65535
  | 4 => toWord ((x.firstFail.map FirstFail.page).getD 0) ||| absentBits s place x.firstFail.isSome 65535
  | 5 => highWord x.failBits
  | 6 => toWord x.failBits
  | 7 => toWord x.failedPages
  | 8 => toWord x.worst
  | 9 => toWord ((x.result.map BitVec.toNat).getD 0) ||| absentBits s place x.result.isSome 65535
  | _ => 0

/-- A word of the entry part of BADLIST: block, origin and presence (R172). An empty position shows bit 15 clear and
holds no entry whose contents could be read. -/
def entryWord (s : State) (i : Nat) : Word :=
  match (Table.at (n := 31) s.lists (i / 64))[i % 64]? with
  | some e => joined [toWord (e.block % 4096), fld (bit e.found.isSome) 14, fld 1 15]
  | none => absentBits s (5 * 65536 + i) false 20479

/-- A word of the count part of BADLIST (R172). -/
def countWord (s : State) (site : Nat) : Word := toWord (Table.at (n := 31) s.lists site).length

/-- A word of the detail part of BADLIST: step index and cause of a FOUND entry, 0 otherwise (R172). -/
def detailWord (s : State) (i : Nat) : Word :=
  match ((Table.at (n := 31) s.lists (i / 64))[i % 64]?).bind Entry.found with
  | some f => fld f.cause.code 8 ||| toWord (f.step % 256)
  | none => 0

/-- A word of BADLIST: entry part, count part, detail part (R172). -/
def badListWord (s : State) (i : Nat) : Word :=
  if i < 2048 then entryWord s i
  else if i < 2080 then countWord s (i - 2048)
  else detailWord s (i - 2080)

/-! ## STATUS (R172) -/

/-- The code of an optional choice in a field, 0 where it is absent. -/
def codeOr (x : Option Nat) : Nat := x.getD 0

/-- The kind of a round in STATUS word 8 (R172). -/
def RoundWork.code (w : RoundWork) : Nat :=
  match w with
  | .page p _ => p.kind.code
  | .poll _ _ _ _ => 3
  | .setparam _ _ => 4

/-- The block a round names (R40). -/
def RoundWork.blockShown (w : RoundWork) : Option Nat :=
  match w with
  | .page p _ => some p.block
  | _ => none

/-- The page a round names (R40). -/
def RoundWork.pageShown (w : RoundWork) : Option Nat :=
  match w with
  | .page p _ => p.page
  | _ => none

/-- The station's drive of the five lines, in the order MARK-E, MARK-O, VETO-E, VETO-O, STOP: a station that is not
enlisted drives none (R129, R133, R136; log entry 19). -/
def ownDrive (s : State) : List Bool :=
  [ s.isEnlisted && s.tie.markE, s.isEnlisted && s.tie.markO, s.isEnlisted && s.tie.vetoDrive .even,
    s.isEnlisted && s.tie.vetoDrive .odd, s.isEnlisted && s.tie.ownPull.isSome ]

/-- A list of flags as the bits down to bit `shift`: its first flag is the highest of them. -/
def flagBits (shift : Nat) (bs : List Bool) : Word :=
  match bs with
  | [] => 0
  | b :: rest => fld (bit b) (shift + rest.length) ||| flagBits shift rest

/-- STATUS word 22: own drive in bits 4–0 and sensed levels in bits 12–8, both in the order MARK-E, MARK-O, VETO-E,
VETO-O, STOP: MARK-E in bits 4 and 12, STOP in bits 0 and 8 (DEDUCED, log entry 40). A line the station pulls is sensed
low; the level of another mark or veto line is the other stations' (free bits, log entry 14); STOP is sensed low as well
while another station pulls it. -/
def linesWord (s : State) : Word :=
  flagBits 0 (ownDrive s) ||| flagBits 8 (ownDrive s) ||| fld (bit s.tie.peerStop) 8 |||
    (Config.freeWord s.free (7 * 65536 + 22) &&& 7680)

/-- STATUS words 0 to 4: the runner (R172). -/
def runnerWord (s : State) (i : Nat) : Word :=
  let r := s.runner
  let place := 7 * 65536 + i
  match i with
  | 0 =>
    joined [toWord r.state.code, fld (bit r.pendingPause) 8, fld (bit r.singleStep) 9, fld (bit r.roundInFlight) 10]
  | 1 =>
    joined [toWord (r.stepIndex % 256), fld (codeOr (r.haltCause.map HaltCause.code)) 8,
      fld (bit r.haltCause.isSome) 15, absentBits s place r.haltCause.isSome 1792]
  | 2 =>
    joined [toWord (codeOr (r.repeatContext.map RepeatContext.index) % 256), fld (bit r.repeatContext.isSome) 15,
      absentBits s place r.repeatContext.isSome 255]
  | 3 =>
    toWord (codeOr (r.repeatContext.map RepeatContext.passes)) ||| absentBits s place r.repeatContext.isSome 65535
  | _ =>
    joined [toWord (codeOr (r.lastRefusal.map Refused.step) % 256),
      fld (codeOr (r.lastRefusal.map fun x => x.reason.code)) 8, fld (bit r.lastRefusal.isSome) 15,
      absentBits s place r.lastRefusal.isSome 2047]

/-- STATUS words 5 to 7: the sweep position (R172). -/
def positionWord (s : State) (i : Nat) : Word :=
  let p := s.sweep.bind Sweep.position
  let place := 7 * 65536 + i
  match i with
  | 5 =>
    joined [toWord (codeOr (p.map fun x => x.kind.code)), fld (bit p.isSome) 15, absentBits s place p.isSome 3]
  | 6 => toWord (codeOr (p.map Position.block)) ||| absentBits s place p.isSome 65535
  | _ => toWord (codeOr (p.bind Position.page)) ||| absentBits s place (p.bind Position.page).isSome 65535

/-- STATUS words 8 to 12: the round record (R172). -/
def roundWord (s : State) (i : Nat) : Word :=
  let w := s.round.map Round.work
  let place := 7 * 65536 + i
  match i with
  | 8 =>
    joined [toWord (codeOr (w.map RoundWork.code)), fld (bit w.isSome) 15, absentBits s place w.isSome 7]
  | 9 =>
    toWord (codeOr (w.bind RoundWork.blockShown)) ||| absentBits s place (w.bind RoundWork.blockShown).isSome 65535
  | 10 =>
    toWord (codeOr (w.bind RoundWork.pageShown)) ||| absentBits s place (w.bind RoundWork.pageShown).isSome 65535
  | 11 =>
    highWord (codeOr (s.round.map fun r => r.participants.toNat)) ||| absentBits s place w.isSome 65535
  | _ => toWord (codeOr (s.round.map fun r => r.participants.toNat)) ||| absentBits s place w.isSome 65535

/-- The station's value of a search, in MAINFRAME scope (section 7.1). -/
def Search.valueShown (c : Search) : Option Nat :=
  match c.fields.scope with
  | .site => none
  | .mainframe => some c.stationValue

/-- The station's trial code of a search, in MAINFRAME scope (section 7.1). -/
def Search.codeShown (c : Search) : Option Nat :=
  match c.fields.scope with
  | .site => none
  | .mainframe => c.stationCode

/-- STATUS words 13 to 16: the search context (R172). -/
def searchWord (s : State) (i : Nat) : Word :=
  let c := s.search
  let place := 7 * 65536 + i
  match i with
  | 13 =>
    joined [toWord (codeOr (c.map Search.trial) % 16), fld (codeOr (c.map fun x => x.phase.code)) 4,
      fld (codeOr (c.map fun x => x.fields.scope.code)) 6, fld (bit c.isSome) 15, absentBits s place c.isSome 127]
  | 14 => toWord (codeOr (c.map Search.step)) ||| absentBits s place c.isSome 65535
  | 15 =>
    joined [pack (codeOr (c.bind Search.valueShown)) (codeOr (c.bind Search.codeShown)),
      absentBits s place (c.bind Search.valueShown).isSome 65280,
      absentBits s place (c.bind Search.codeShown).isSome 255]
  | _ =>
    let v := c.bind Search.localVote
    let k := c.bind Search.combined
    joined [toWord (codeOr (v.map Verdict.code)), fld (bit v.isSome) 1, fld (codeOr (k.map Verdict.code)) 2,
      fld (bit k.isSome) 3, absentBits s place v.isSome 1, absentBits s place k.isSome 4]

/-- STATUS words 17 to 22: the Tie Port (R143, R172). -/
def tieWord (s : State) (i : Nat) : Word :=
  let t := s.tie
  let place := 7 * 65536 + i
  match i with
  | 17 => joined [toWord t.station.toNat, fld t.enlistment.code 4, fld (bit t.lock) 6]
  | 18 => toWord t.barrier
  | 19 =>
    joined [toWord (codeOr (t.wait.map fun w => w.kind.code)), fld (codeOr (t.wait.map fun w => w.line.code)) 2,
      fld (bit t.wait.isSome) 3, fld (codeOr (t.vote.map Verdict.code)) 4, fld (bit t.vote.isSome) 5,
      fld (codeOr (t.sampledVeto.map Verdict.code)) 6, fld (bit t.sampledVeto.isSome) 7,
      fld (codeOr (t.heldVeto.map Parity.code)) 8, fld (bit t.heldVeto.isSome) 9,
      absentBits s place t.wait.isSome 7, absentBits s place t.vote.isSome 16,
      absentBits s place t.sampledVeto.isSome 64, absentBits s place t.heldVeto.isSome 256]
  | 20 =>
    joined [toWord (codeOr (t.ownPull.map fun c => c.toHalt.code)), fld (bit t.ownPull.isSome) 3,
      fld (codeOr (t.stop.map HaltCause.code)) 4, fld (bit t.stop.isSome) 7,
      absentBits s place t.ownPull.isSome 7, absentBits s place t.stop.isSome 112]
  | 21 => toWord (codeOr t.timer / 1000) ||| absentBits s place t.timer.isSome 65535
  | _ => linesWord s

/-- STATUS words 23 to 28: the log and the attention causes (R172). -/
def logWord (s : State) (i : Nat) : Word :=
  let split := s.setup.logMode == .split
  match i with
  | 23 =>
    joined [toWord s.setup.logMode.code, fld s.setup.logPolicy.code 1, fld (bit s.log.frozen) 2]
  | 24 => toWord s.log.ring0.records.length
  | 25 => toWord s.log.ring0.next
  | 26 => if split then toWord s.log.ring1.records.length else 0
  | 27 => if split then toWord s.log.ring1.next else 0
  | _ => toWord s.link.causes.toNat ||| fld (bit s.attn) 15

/-- A word of STATUS (R172). -/
def statusWord (s : State) (i : Nat) : Word :=
  if i < 5 then runnerWord s i
  else if i < 8 then positionWord s i
  else if i < 13 then roundWord s i
  else if i < 17 then searchWord s i
  else if i < 23 then tieWord s i
  else logWord s i

/-! ## READ (R166) -/

/-- The word of an area at an index, as a READ returns it (R166, R172). -/
def areaWord (area : Nat) (s : State) (i : Nat) : Word :=
  match area with
  | 1 => planWord s i
  | 2 => (setupWords s.setup).getD i 0
  | 3 => siteCfgWord s i
  | 4 => siteResultWord s i
  | 5 => badListWord s i
  | 6 => filterWord s i
  | _ => statusWord s i

/-- The words of a READ: `n` of them from `index` on (R166). -/
def readWords (area : Nat) (s : State) (index n : Nat) : List Word :=
  (List.range n).map fun d => areaWord area s (index + d)

/-! ## Log records (R174) -/

/-- The kind code of a record (R174). -/
def RecordBody.code (b : RecordBody) : Nat :=
  match b with
  | .pageFail _ => 1
  | .runStart => 2
  | .stepBegin _ _ => 3
  | .markPassed _ => 4
  | .trialResult _ => 5
  | .searchResult _ => 6
  | .blockBad _ => 7
  | .siteRejected _ => 8
  | .halted _ _ _ => 9
  | .markerRec _ _ => 10
  | .runEnd _ _ => 11

/-- The presence bits of a record (R174). -/
def RecordBody.presence (b : RecordBody) : Nat :=
  match b with
  | .pageFail r => bit r.page.isSome + 2 * bit r.filter.isSome + 4 * bit r.trialCode.isSome
  | .markPassed r => bit r.label.isSome + 2 * bit r.vote.isSome
  | .trialResult r => bit r.site.isSome + 2 * bit r.localVote.isSome + 4 * bit r.barrier.isSome
  | .searchResult r => bit r.code.isSome + 2 * bit r.trim.isSome
  | .blockBad r => bit r.page.isSome
  | .siteRejected r => bit r.block.isSome + 2 * bit r.page.isSome
  | _ => 0

/-- Words 2 to 7 of a PAGE_FAIL_REC (R174): the outcome figures for READ_DATA, the matched status otherwise. -/
def PageFailRec.words (r : PageFailRec) : List Word :=
  let f := r.figures
  [ joined [fld r.site.val 11, fld (codeOr r.filter % 4) 9, toWord (r.step % 256)],
    joined [fld r.outcome.bit 14, fld r.source.code 12, toWord (r.block % 4096)],
    fld (codeOr (f.map PageOutcome.overCount)) 9 ||| toWord (codeOr r.page % 512),
    toWord (codeOr ((f.map PageOutcome.worstTally) <|> r.status.map BitVec.toNat)),
    toWord (codeOr (f.map PageOutcome.total)),
    pack (codeOr (f.map PageOutcome.worstIndex)) (codeOr (r.trialCode.map BitVec.toNat)) ]

/-- Words 2 to 7 of a record (R174); a word past the list's end reads 0. -/
def RecordBody.words (b : RecordBody) : List Word :=
  match b with
  | .pageFail r => r.words
  | .runStart => []
  | .stepBegin step label => [pack step label]
  | .markerRec step label => [pack step label]
  | .markPassed r =>
    [ pack r.step (codeOr r.label), toWord r.barrier,
      joined [toWord r.kind.code, fld (codeOr (r.vote.map Verdict.code)) 8, fld r.sampled.code 9], toWord r.waited ]
  | .trialResult r =>
    [ pack r.step (codeOr (r.site.map Fin.val)), pack r.trial r.code,
      toWord r.verdict.code ||| fld (codeOr (r.localVote.map Verdict.code)) 1, toWord (codeOr r.barrier) ]
  | .searchResult r =>
    [ pack r.site.val r.step, pack (codeOr r.code) (codeOr r.trim), pack r.trials r.scope.code ]
  | .blockBad r =>
    [ pack r.site.val r.step, toWord r.block, toWord (codeOr r.page), pack r.cause.code r.count ]
  | .siteRejected r =>
    [ pack r.site.val r.step, toWord r.cause.bit, toWord (codeOr r.block), toWord (codeOr r.page) ]
  | .halted cause step barrier => [pack (codeOr (cause.map HaltCause.code)) step, toWord barrier]
  | .runEnd step way => [pack way.code step]

/-- The eight words of a record, as DRAIN returns them (R174). -/
def LogRecord.words (r : LogRecord) : List Word :=
  let fields := r.body.words
  [ joined [fld r.body.code 8, fld r.station.toNat 4, toWord r.body.presence], toWord r.sequence ] ++ fields ++
    List.replicate (6 - fields.length) 0

end Sys2Proof.Machine
end

