-- ==== Sys2Proof/Machine/PlanCheck.lean ====
section
/-! DEFINITION. The plan check at START (section 1.3, R7, R8). -/
namespace Sys2Proof.Machine

/-- The kind code at an index; 256 where there is no record. -/
def kindAt (p : PlanStore) (i : Nat) : Nat := ((recordAt p i).map kindCode).getD 256

/-- The body length of the SEARCH record at an index. -/
def bodyAt (p : PlanStore) (i : Nat) : Nat := ((recordAt p i).map fun r => (r.get 4).toNat).getD 0

/-- BAD_KIND: the kind is none of the eight (R8, R173). -/
def badKind (r : PlanRecord) : Bool := 7 < kindCode r

/-- BAD_RANGE for a SWEEP (R8): blocks against the blocks per die, pages against the pages per block (ERASE
excepted), the order of first and last, and the choice fields the sweep uses. -/
def badSweepRange (g : Setup) (r : PlanRecord) : Bool :=
  match sweepFields r with
  | none => true
  | some f =>
    g.blocksPerDie ≤ f.firstBlock || g.blocksPerDie ≤ f.lastBlock || f.lastBlock < f.firstBlock ||
      (f.op != .erase && (g.pagesPerBlock ≤ f.firstPage || g.pagesPerBlock ≤ f.lastPage || f.lastPage < f.firstPage))

/-- BAD_RANGE: a field the kind uses is out of range (R8). -/
def badRange (g : Setup) (r : PlanRecord) : Bool :=
  match kindCode r with
  | 1 => badSweepRange g r
  | 2 => (r.get 3).toNat < 1 || 7 < (r.get 3).toNat || pollDeadline r == 0 || 1048575 < pollDeadline r
  | 3 => (TrimSource.ofCode (lo (r.get 2)) (r.get 3)).isNone
  | 4 => (searchFields r).isNone || lo (r.get 2) < 1 || 8 < lo (r.get 2) || (r.get 4).toNat < 1 || 8 < (r.get 4).toNat
  | 6 => (r.get 2).toNat < 1 || 16 < (r.get 2).toNat || (r.get 3).toNat == 0
  | _ => false

/-- BAD_SPAN: a REPEAT's span reaches before step 0, or a SEARCH's body past step 255 (R8). -/
def badSpan (r : PlanRecord) (i : Nat) : Bool :=
  match kindCode r with
  | 4 => 255 < i + (r.get 4).toNat
  | 6 => i < (r.get 2).toNat
  | _ => false

/-- Whether index `j` is a step of the body of a SEARCH at a lower index (R8). -/
def inSearchBody (p : PlanStore) (j : Nat) : Bool :=
  (List.range j).any fun s => kindAt p s == 4 && j ≤ s + bodyAt p s

/-- SPAN_OVERLAP: a REPEAT's span contains a REPEAT, a SEARCH, or a step of a SEARCH's body (R8). -/
def spanOverlap (p : PlanStore) (r : PlanRecord) (i : Nat) : Bool :=
  kindCode r == 6 &&
    (List.range (r.get 2).toNat).any fun d =>
      let j := i - (r.get 2).toNat + d
      kindAt p j == 6 || kindAt p j == 4 || inSearchBody p j

/-- BODY_KIND: a SEARCH's body contains a step other than SWEEP, POLL and MARKER (R8). -/
def badBodyKind (p : PlanStore) (r : PlanRecord) (i : Nat) : Bool :=
  kindCode r == 4 &&
    (List.range (r.get 4).toNat).any fun d =>
      let k := kindAt p (i + 1 + d)
      !(k == 1 || k == 2 || k == 7)

/-- The first test that the step at an index fails, in the order of R7. -/
def checkStep (g : Setup) (p : PlanStore) (i : Nat) (r : PlanRecord) : Option CheckReason :=
  if badKind r then some .badKind
  else if badRange g r then some .badRange
  else if badSpan r i then some .badSpan
  else if spanOverlap p r i then some .spanOverlap
  else if badBodyKind p r i then some .bodyKind
  else none

/-- The walk of the plan check over `left` indices from `i` on: it stops at the first step that fails, and after
the first END (R7). -/
def checkFrom (g : Setup) (p : PlanStore) (left i : Nat) : Option Refused :=
  match left with
  | 0 => none
  | left + 1 =>
    match recordAt p i with
    | none => none
    | some r =>
      match checkStep g p i r with
      | some reason => some { reason := reason, step := i }
      | none => if kindCode r == 0 then none else checkFrom g p left (i + 1)

/-- The plan check: none when every checked step passes (R7). -/
def planCheck (g : Setup) (p : PlanStore) : Option Refused := checkFrom g p 256 0

end Sys2Proof.Machine
end

