-- ==== Sys2Proof/Machine/RunCommands.lean ====
section
/-! DEFINITION. The run commands: START, PAUSE, STEP, RESUME, ABORT, STOP_ALL, CLEAR_RESULTS, RESET (section 1.10),
and the response that every request brings (R163, R164). -/
namespace Sys2Proof.Machine

/-! ## Requests and responses (R163, R164) -/

/-- Whether the Link Port takes a frame: the receiver is READY, no response is in progress and the receiver is not
holding off after a framing error. In every other case the bytes of a frame are discarded and the request is lost
without an answer (R160, R162, R163, log entry 2). -/
def State.linkTakes (s : State) : Bool :=
  s.link.receiver == .ready && s.link.response.isNone && s.link.holdOff.isNone

/-- A request at the completion of its frame: taken, or lost when the Link Port takes no bytes (R163). -/
def onRequest (op : State → State) (s : State) : State := if s.linkTakes then op s else s

/-- The frame is done and its response begins: the status byte and what follows it (R163, R164). -/
def answer (status : Status) (data : List Byte) (s : State) : State :=
  { s with link := { s.link with
      frame := [], response := some { bytes := status.code :: data, cut := false, resetAfter := false }, lineHigh := 0 } }

/-- The quiet states (section 1.5). -/
def RunState.quiet (x : RunState) : Bool :=
  match x with
  | .idle => true
  | .done => true
  | .halted => true
  | .atMark => false
  | .running => false
  | .paused => false
  | .logStall => false
  | .halting => false

/-- Whether the runner is in a quiet state. -/
def State.quiet (s : State) : Bool := s.runner.state.quiet

/-! ## START (R10) -/

/-- What an accepted START does, in the order of R10, up to its arrival at barrier 0. -/
def startRun (s : State) : State :=
  let s1 := clearCurrent s
  let s2 : State := { s1 with log := { s1.log with frozen := false } }
  let s3 := offer .runStart s2
  let s4 : State :=
    { s3 with
      tie := { s3.tie with barrier := 0, sampledVeto := none, heldVeto := none, vote := none }
      runner := { s3.runner with stepIndex := 0, repeatContext := none, haltCause := none, pendingPause := false,
                                 singleStep := false, lastRefusal := none } }
  arrive .start none s4

/-- START (R10): WRONG_STATE, STOP_ACTIVE, PLAN_INVALID, or the run begins. -/
def startRequest (s : State) : State :=
  if s.runner.state == .idle || s.runner.state == .done then
    match s.tie.stop with
    | some _ => answer .stopActive [] s
    | none =>
      match planCheck s.setup s.plan with
      | some refused => answer .planInvalid [] { s with runner := { s.runner with lastRefusal := some refused } }
      | none => startRun (answer .ok [] s)
  else answer .wrongState [] s

/-! ## PAUSE, STEP, RESUME (R19, R20, R21) -/

/-- PAUSE (R19). -/
def pauseRequest (s : State) : State :=
  match s.runner.state with
  | .running => answer .ok [] { s with runner := { s.runner with pendingPause := true } }
  | .atMark => answer .ok [] { s with runner := { s.runner with pendingPause := true } }
  | .logStall => answer .ok [] { s with runner := { s.runner with pendingPause := true } }
  | _ => answer .wrongState [] s

/-- STEP (R20): the runner makes the boundary checks again, as its work at hand. -/
def stepRequest (s : State) : State :=
  if s.runner.state == .paused then
    answer .ok [] { s with runner := { s.runner with state := .running, singleStep := true, point := .boundary } }
  else answer .wrongState [] s

/-- RESUME (R21): the runner makes the boundary checks again, as its work at hand. -/
def resumeRequest (s : State) : State :=
  if s.runner.state == .paused then
    answer .ok [] { s with runner := { s.runner with state := .running, point := .boundary } }
  else answer .wrongState [] s

/-! ## ABORT (R22) -/

/-- A site's record when a round is abandoned or at ABORT (R58, R76, R87). -/
def Site.abort (x : Site) : Site :=
  { x with state := if x.state == .waiting then .active else x.state, phase := none, trialFailed := false }

/-- The Tie Port at ABORT in a state other than IDLE, and at RESET (R126, R139, R140). -/
def Tie.abort (t : Tie) : Tie :=
  { t.resense with barrier := 0, wait := none, vote := none, sampledVeto := none, heldVeto := none, timer := none,
                   markE := t.enlistment == .enlisted, markO := t.enlistment == .enlisted }

/-- ABORT outside IDLE (R9, R22, R58, R76, R122, R139): the round abandoned, sweep and search dropped, every port
idle. -/
def abortRun (s : State) : State :=
  { s with
    runner := { Runner.reset with lastRefusal := s.runner.lastRefusal }
    sweep := none
    streams := Table.replicate 32 none
    round := none
    clocks := Table.replicate 32 Clocks.stopped
    ports := Table.replicate 32 Port.idle
    tallies := Table.replicate 32 none
    sites := s.sites.map Site.abort
    search := none
    tie := s.tie.abort }

/-- ABORT in IDLE: the own pull is released, the trial-failed flags are cleared and the ports left idle; nothing else
changes (R22, R41, R87, R139). -/
def abortIdle (s : State) : State :=
  { clearTrialFlags s with tie := s.tie.resense, ports := Table.replicate 32 Port.idle }

/-- ABORT (R22). -/
def abortRequest (s : State) : State :=
  answer .ok [] (if s.runner.state == .idle then abortIdle s else abortRun s)

/-! ## STOP_ALL, CLEAR_RESULTS, RESET (R23, R24) -/

/-- STOP_ALL (R23). -/
def stopAllRequest (s : State) : State := takeStop (requestPull .hostStop (answer .ok [] s))

/-- A site's record after CLEAR_RESULTS (R73, R76, R92). -/
def Site.clearResults (x : Site) : Site :=
  { x with state := if x.state == .rejected then .active else x.state, phase := none, current := 0, accrued := 0,
           reject := none, firstFail := none, failBits := 0, failedPages := 0, worst := 0, result := none,
           trialFailed := false }

/-- A list after CLEAR_RESULTS: its PRELOADED entries, in their order (R105). -/
def preloadedOnly (l : List Entry) : List Entry := l.filter fun e => e.found.isNone

/-- CLEAR_RESULTS (R24, R92, R105, R152). -/
def clearResultsRequest (s : State) : State :=
  if s.quiet then
    answer .ok [] (emptyRings { s with sites := s.sites.map Site.clearResults, lists := s.lists.map preloadedOnly })
  else answer .wrongState [] s

/-- RESET (R24, R140, R168): every block but the Link Port takes its RESET values, and the status byte begins. The
Link Port's own RESET follows that byte (RESPONSE_END). -/
def resetRequest (s : State) : State :=
  { State.reset with
    tie := s.tie.abort
    link := { s.link with
      frame := [], response := some { bytes := [Status.ok.code], cut := false, resetAfter := true }, lineHigh := 0 }
    free := s.free
    pending := s.pending }

/-! ## The meanings -/

/-- START (R10). -/
def execStart (s : State) : Result := .next (onRequest startRequest s)

/-- PAUSE (R19). -/
def execPause (s : State) : Result := .next (onRequest pauseRequest s)

/-- STEP (R20). -/
def execStepRun (s : State) : Result := .next (onRequest stepRequest s)

/-- RESUME (R21). -/
def execResume (s : State) : Result := .next (onRequest resumeRequest s)

/-- ABORT (R22). -/
def execAbort (s : State) : Result := .next (onRequest abortRequest s)

/-- STOP_ALL (R23). -/
def execStopAll (s : State) : Result := .next (onRequest stopAllRequest s)

/-- CLEAR_RESULTS (R24). -/
def execClearResults (s : State) : Result := .next (onRequest clearResultsRequest s)

/-- RESET (R24, R168). -/
def execReset (s : State) : Result := .next (onRequest resetRequest s)

end Sys2Proof.Machine
end

