-- ==== Sys2Proof/WellFormed.lean ====
section
/-! DEFINITION. Which terms of `Instr` a frame of the link can carry (section 10.2: "n is 1–256"). -/
namespace Sys2Proof

/-- The number of words, or of records asked for, that the count byte of a frame can say (section 10.2). -/
def frameCountOk (n : Nat) : Bool := 1 ≤ n && n ≤ 256

/-- Whether the command is one that can reach the part: a WRITE carries 1 to 256 words and a DRAIN names a count
1–256 (section 10.2, R150, R167); every other command is well formed by its operands' types. -/
def Instr.wellFormed (i : Instr) : Bool :=
  match i with
  | .start => true
  | .pause => true
  | .stepRun => true
  | .resume => true
  | .abort => true
  | .stopAll => true
  | .clearResults => true
  | .reset => true
  | .responseEnd => true
  | .setupWrite _ words => frameCountOk words.length
  | .siteCfgWrite _ words => frameCountOk words.length
  | .preload _ _ words => frameCountOk words.length
  | .truncation _ words => frameCountOk words.length
  | .write _ _ words => frameCountOk words.length
  | .drain _ count => frameCountOk count
  | .enlist _ => true
  | .ack _ => true
  | .probe => true
  | .powerOnReset _ => true
  | .eligibleInterval _ => true
  | .lineIdleTimeout => true
  | .settlingEnd => true
  | .lineBreak => true
  | .framingError => true
  | .frameGapTimeout => true
  | .barrierPass _ => true
  | .issue _ => true
  | .pollTimerExpiry _ => true
  | .statusResult _ _ => true
  | .deadlineExpiry _ => true
  | .dataPartEnd _ => true
  | .discardedTransactionEnd _ => true
  | .rendezvousTimeout => true
  | .stopFall => true
  | .stopRise => true
  | .byteTaken _ => true
  | .settlingEdge => true
  | .readByte _ _ => true
  | .unknownRequestFrame => true

end Sys2Proof
end

