-- ==== Sys2Proof/Machine/Requests.lean ====
section
/-! DEFINITION. The requests of the link besides the run commands: SETUP_WRITE, SITE_CFG_WRITE, PRELOAD, TRUNCATION,
WRITE, DRAIN, ENLIST, ACK, PROBE, UNKNOWN_REQUEST_FRAME, and READ, which has no row of its own (sections 10.3 to
10.7). Each judges its frame in the order of R164. -/
namespace Sys2Proof.Machine

/-! ## SETUP (R171) -/

/-- A value clamped to a field's range (R171). -/
def clamp (least most v : Nat) : Nat := max least (min most v)

/-- A value clamped and then rounded down to a multiple (R171: page bytes, codeword bytes). -/
def clampTo (multiple least most v : Nat) : Nat := clamp least most v / multiple * multiple

/-- The words of SETUP after the merge: the frame's words over the stored ones (R171). -/
def mergedWord (g : Setup) (index : Nat) (words : List Word) (i : Nat) : Word :=
  if index ≤ i && i < index + words.length then words.getD (i - index) 0 else (setupWords g).getD i 0

/-- The Setup fields after a frame: each field that the frame touches is formed from the merged words and clamped;
every other field stands (R171, R84, R157). -/
def storeSetup (g : Setup) (index : Nat) (words : List Word) : Setup :=
  let w (i : Nat) : Nat := (mergedWord g index words i).toNat
  let touched (i : Nat) : Bool := index ≤ i && i < index + words.length
  let deadline (i old : Nat) : Nat :=
    if touched i || touched (i + 1) then clamp 1 1048575 (w i * 65536 + w (i + 1)) else old
  let field {α : Type} (i : Nat) (new old : α) : α := if touched i then new else old
  { blocksPerDie := field 0 (clamp 1 4096 (w 0)) g.blocksPerDie
    pagesPerBlock := field 1 (clamp 1 512 (w 1)) g.pagesPerBlock
    pageBytes := field 2 (clampTo 512 512 16384 (w 2)) g.pageBytes
    codewordBytes := field 3 (clampTo 256 256 4096 (w 3)) g.codewordBytes
    threshold := field 4 (w 4) g.threshold
    matchCount := field 5 (clamp 1 7 (w 5)) g.matchCount
    pollInterval := field 6 (clamp 1 255 (w 6)) g.pollInterval
    readyMask := field 7 (toByte (clamp 0 255 (w 7))) g.readyMask
    readyValue := field 8 (toByte (clamp 0 255 (w 8))) g.readyValue
    failMask := field 9 (toByte (clamp 0 255 (w 9))) g.failMask
    readDeadline := deadline 10 g.readDeadline
    programDeadline := deadline 12 g.programDeadline
    eraseDeadline := deadline 14 g.eraseDeadline
    siteStop := field 16 (BitVec.ofNat 7 (w 16 % 64)) g.siteStop
    mainframeStop := field 17 (BitVec.ofNat 7 (w 17 % 64)) g.mainframeStop
    listLimit := field 18 (clamp 1 64 (w 18)) g.listLimit
    rendezvousTimeout := field 19 (w 19) g.rendezvousTimeout
    markRecord := field 20 (w 20 % 2 == 1) g.markRecord
    logMode := field 21 (if w 21 == 0 then .unified else .split) g.logMode
    logPolicy := field 22 (if w 22 == 0 then .wrap else .stall) g.logPolicy
    freeze := field 23 (w 23 % 2 == 1) g.freeze
    watermark := field 24 (clamp 1 2048 (w 24)) g.watermark
    defaultLog := field 25 (w 25 != 0) g.defaultLog
    enables := field 26 (BitVec.ofNat 5 (w 26)) g.enables }

/-- A WRITE to SETUP that has passed its tests: the fields are stored, and a change of log mode or log policy
empties the rings (R148, R171). -/
def applySetup (index : Nat) (words : List Word) (s : State) : State :=
  let g := storeSetup s.setup index words
  let s1 : State := { s with setup := g }
  if g.logMode == s.setup.logMode && g.logPolicy == s.setup.logPolicy then s1 else emptyRings s1

/-- A WRITE to SETUP (R164, R165, R171). -/
def setupWriteRequest (index : Word) (words : List Word) (s : State) : State :=
  if 27 < index.toNat + words.length then answer .badIndex [] s
  else if !s.quiet then answer .wrongState [] s
  else answer .ok [] (applySetup index.toNat words s)

/-! ## SITE_CFG (R57, R89, R90, R91, R120) -/

/-- Writing the enabled flag set, in a quiet state (R89). -/
def Site.enable (x : Site) : Site :=
  match x.state with
  | .off => { x with state := .active }
  | .rejected => { x with state := .active, reject := none }
  | .active => x
  | .waiting => x

/-- A site's record after a disable (R90). -/
def Site.disable (x : Site) : Site :=
  match x.state with
  | .off => x
  | _ => { x with state := .off, phase := none, reject := none }

/-- The search context after a member site has left it (R120). -/
def Search.leave (c : Search) (i : SiteId) : Search :=
  { c with members := c.members.without i, trialSet := c.trialSet.without i }

/-- A disable: at a WAITING site its part in the round goes with it, its timers, its transaction and its partial
tallies (R57, R90), and its stream unless its port is taking the bytes of a PROGRAM (R35); the site leaves any search it
is a member of (R120); at an OFF site nothing changes. -/
def disableSite (i : SiteId) (s : State) : State :=
  let left : State := { modifySite i Site.disable s with search := s.search.map (·.leave i) }
  match (s.site i).state with
  | .off => s
  | .waiting =>
    { left with
      clocks := s.clocks.set i Clocks.stopped
      ports := s.ports.set i (s.port i).abandonSite
      tallies := s.tallies.set i none
      streams := s.streams.set i (streamLeft s i) }
  | _ => left

/-- The site that a word of SITE_CFG belongs to. -/
def cfgSite (i : Nat) : SiteId := ⟨i / 2 % 32, Nat.mod_lt _ (by decide)⟩

/-- Whether a word of a SITE_CFG frame asks, outside the quiet states, for a change that is refused: an enable of a
site whose flag is clear, or a change of a trim code (R89). -/
def cfgRefused (s : State) (i : Nat) (w : Word) : Bool :=
  if i % 2 == 0 then w.getLsbD 0 && !(s.site (cfgSite i)).enabled else loByte w != (s.site (cfgSite i)).trim

/-- Whether some word of the frame is refused outside the quiet states (R89). -/
def anyCfgRefused (s : State) (index : Nat) (words : List Word) : Bool :=
  match words with
  | [] => false
  | w :: rest => cfgRefused s index w || anyCfgRefused s (index + 1) rest

/-- One word of an accepted SITE_CFG frame: an enable word clear disables (R90); set, it enables in a quiet state
(R89); a trim word sets the code (R91; outside the quiet states it is the code held). -/
def applyCfgWord (quiet : Bool) (i : Nat) (w : Word) (s : State) : State :=
  if i % 2 == 0 then
    if w.getLsbD 0 then (if quiet then modifySite (cfgSite i) Site.enable s else s) else disableSite (cfgSite i) s
  else modifySite (cfgSite i) (fun x => { x with trim := loByte w }) s

/-- The words of an accepted SITE_CFG frame, in order (R89). -/
def applyCfg (quiet : Bool) (index : Nat) (words : List Word) (s : State) : State :=
  match words with
  | [] => s
  | w :: rest => applyCfg quiet (index + 1) rest (applyCfgWord quiet index w s)

/-- A WRITE to SITE_CFG (R89). Disabling the last participant of a round ends it (R56, R90; log entry 18). -/
def siteCfgWriteRequest (index : Word) (words : List Word) (s : State) : State :=
  if 64 < index.toNat + words.length then answer .badIndex [] s
  else if !s.quiet && anyCfgRefused s index.toNat words then answer .wrongState [] s
  else endRoundIfDone (applyCfg s.quiet index.toNat words (answer .ok [] s))

/-! ## BADLIST (R102, R103, R104) -/

/-- A list after a preload: each block that it does not hold yet is appended (R103). -/
def preloadList (l : List Entry) (words : List Word) : List Entry :=
  match words with
  | [] => l
  | w :: rest =>
    preloadList (if listHolds l w.toNat then l else l ++ [{ block := w.toNat, found := none }]) rest

/-- A WRITE to a site's section of the entry part: a preload (R102, R103, R164). -/
def preloadRequest (i : SiteId) (position : Nat) (words : List Word) (s : State) : State :=
  if 2080 < 64 * i.val + position + words.length then answer .readOnly [] s
  else if 64 < position + words.length then answer .badIndex [] s
  else if !s.quiet then answer .wrongState [] s
  else if position != (s.list i).length then answer .badIndex [] s
  else if words.any fun w => 4095 < w.toNat then answer .badRequest [] s
  else answer .ok [] { s with lists := s.lists.set i (preloadList (s.list i) words) }

/-- Whether some count word is above the entry count of its site, from site `first` on (R104). -/
def anyCountAbove (s : State) (first : Nat) (words : List Word) : Bool :=
  match words with
  | [] => false
  | w :: rest => (Table.at (n := 31) s.lists first).length < w.toNat || anyCountAbove s (first + 1) rest

/-- The lists after a truncation: the word at place d is for site first + d (R104). -/
def truncateLists (lists : PerSite (List Entry)) (first : Nat) (words : List Word) : PerSite (List Entry) :=
  Table.ofFn fun i =>
    if first ≤ i.val then
      match words[i.val - first]? with
      | some w => (lists.get i).take w.toNat
      | none => lists.get i
    else lists.get i

/-- A WRITE to the count part: a truncation (R104, R164). -/
def truncationRequest (i : SiteId) (words : List Word) (s : State) : State :=
  if 32 < i.val + words.length then answer .readOnly [] s
  else if !s.quiet then answer .wrongState [] s
  else if anyCountAbove s i.val words then answer .badRequest [] s
  else answer .ok [] { s with lists := truncateLists s.lists i.val words }

/-- A WRITE to BADLIST by its word index: entry part, count part, detail part (R164, R172; log entry 23). -/
def badListWriteRequest (index : Nat) (words : List Word) (s : State) : State :=
  if index < 2048 then preloadRequest ⟨index / 64 % 32, Nat.mod_lt _ (by decide)⟩ (index % 64) words s
  else if index < 2080 then truncationRequest ⟨(index - 2048) % 32, Nat.mod_lt _ (by decide)⟩ words s
  else if index < 4128 then answer .readOnly [] s
  else answer .badIndex [] s

/-! ## PLAN and FILTERS (R1, R155, R165) -/

/-- The Plan Store with one word stored as written (R1, R165). -/
def storePlanWord (p : PlanStore) (i : Nat) (w : Word) : PlanStore :=
  if h : i / 16 < 256 then
    p.modify ⟨i / 16, h⟩ fun r => r.set ⟨i % 16, Nat.mod_lt _ (by decide)⟩ w
  else p

/-- The Plan Store with words stored from an index on (R165). -/
def storePlan (p : PlanStore) (index : Nat) (words : List Word) : PlanStore :=
  match words with
  | [] => p
  | w :: rest => storePlan (storePlanWord p index w) (index + 1) rest

/-- A filter record with one of its eight words stored, the bits that the layout does not use ignored (R155, R165,
R172). -/
def Filter.storeWord (f : Filter) (i : Nat) (w : Word) : Filter :=
  match i with
  | 0 => { f with enabled := w.getLsbD 0, action := Action.ofCode (hi w % 4) }
  | 1 => { f with sites := w ++ f.sites.setWidth 16 }
  | 2 => { f with sites := toWord (f.sites.toNat / 65536) ++ w }
  | 3 => { f with blockValue := w.setWidth 12 }
  | 4 => { f with blockMask := w.setWidth 12 }
  | 5 => { f with pageValue := w.setWidth 9 }
  | 6 => { f with pageMask := w.setWidth 9 }
  | 7 => { f with minTotal := w.toNat }
  | _ => f

/-- The filters with words stored from an index of FILTERS on (R165). -/
def storeFilters (fs : Table 4 Filter) (index : Nat) (words : List Word) : Table 4 Filter :=
  match words with
  | [] => fs
  | w :: rest =>
    storeFilters
      (if h : index / 8 < 4 then fs.modify ⟨index / 8, h⟩ fun f => f.storeWord (index % 8) w else fs) (index + 1) rest

/-- A WRITE to PLAN (R1, R164, R165). -/
def planWriteRequest (index : Nat) (words : List Word) (s : State) : State :=
  if 4096 < index + words.length then answer .badIndex [] s
  else if !s.quiet then answer .wrongState [] s
  else answer .ok [] { s with plan := storePlan s.plan index words }

/-- A WRITE to FILTERS (R155, R164, R165). -/
def filtersWriteRequest (index : Nat) (words : List Word) (s : State) : State :=
  if 32 < index + words.length then answer .badIndex [] s
  else if !s.quiet then answer .wrongState [] s
  else answer .ok [] { s with filters := storeFilters s.filters index words }

/-- A WRITE to the area that a code names (R164, R165, R172). -/
def writeRequest (area : Nat) (index : Word) (words : List Word) (s : State) : State :=
  match area with
  | 1 => planWriteRequest index.toNat words s
  | 2 => setupWriteRequest index words s
  | 3 => siteCfgWriteRequest index words s
  | 4 => answer .readOnly [] s
  | 5 => badListWriteRequest index.toNat words s
  | 6 => filtersWriteRequest index.toNat words s
  | 7 => answer .readOnly [] s
  | _ => answer .badRequest [] s

/-! ## READ (R164, R166) -/

/-- A READ (R166): the words as they stand, after the status byte. It changes nothing but the model's own counter of
free values (log entry 13). -/
def readRequest (area : Nat) (index : Word) (n : Nat) (s : State) : State :=
  match areaSize area with
  | none => answer .badRequest [] s
  | some size =>
    if size < index.toNat + n then answer .badIndex [] s
    else { answer .ok (wordsBytes (readWords area s index.toNat n)) s with free := s.free + 1 }

/-! ## DRAIN (R150, R167) -/

/-- A ring after its `m` oldest records have left it (R150). -/
def Ring.drop (r : Ring) (capacity m : Nat) : Ring :=
  { r with records := r.records.drop m, oldest := (r.oldest + m) % capacity }

/-- The reply of a DRAIN after the status byte: m, then the records (R167, R174). -/
def drainReply (records : List LogRecord) : List Byte :=
  toByte records.length :: wordsBytes (records.flatMap LogRecord.words)

/-- Headroom reported to a runner in LOG_STALL, which returns to RUNNING where it stalled: the test that it repeats is its
work at hand (R12, R147). -/
def reportHeadroom (s : State) : State :=
  if s.runner.state == .logStall && s.headroomMet then { s with runner := { s.runner with state := .running } } else s

/-- The number of records a DRAIN hands back (R150). -/
def drainCount (r : Ring) (count : Nat) : Nat := min (min count 32) r.records.length

/-- A DRAIN of ring 0 (R150). -/
def drainRing0 (count : Nat) (s : State) : State :=
  let m := drainCount s.log.ring0 count
  reportHeadroom (answer .ok (drainReply (s.log.ring0.records.take m))
    { s with log := { s.log with ring0 := s.log.ring0.drop (ringCapacity s.setup.logMode) m } })

/-- A DRAIN of ring 1, in SPLIT (R150). -/
def drainRing1 (count : Nat) (s : State) : State :=
  let m := drainCount s.log.ring1 count
  reportHeadroom (answer .ok (drainReply (s.log.ring1.records.take m))
    { s with log := { s.log with ring1 := s.log.ring1.drop (ringCapacity s.setup.logMode) m } })

/-- DRAIN (R150, R167): a ring that does not exist is refused with BAD_INDEX. -/
def drainRequest (ring : Word) (count : Nat) (s : State) : State :=
  match ring.toNat with
  | 0 => drainRing0 count s
  | 1 =>
    match s.setup.logMode with
    | .unified => answer .badIndex [] s
    | .split => drainRing1 count s
  | _ => answer .badIndex [] s

/-! ## ENLIST, ACK, PROBE (R128, R169, R170) -/

/-- ENLIST (R128, R164). -/
def enlistRequest (value : Word) (s : State) : State :=
  if 1 < value.toNat then answer .badRequest [] s
  else if s.tie.lock then answer .locked [] s
  else if s.runner.state != .idle then answer .wrongState [] s
  else if value.toNat == 1 then
    answer .ok [] { s with tie := { s.tie with enlistment := .enlisted, lock := true, markE := true, markO := true } }
  else answer .ok [] { s with tie := { s.tie with enlistment := .leftOut, lock := true } }

/-- ACK (R170): every cause it names is cleared; bits 5–15 are not used. -/
def ackRequest (causes : Word) (s : State) : State :=
  answer .ok [] { s with link := { s.link with causes := s.link.causes &&& ~~~(causes.setWidth 5) } }

/-- The three words of PROBE (R169). A part that answers has a learned period. -/
def probeWords (s : State) : List Word :=
  [ toWord s.tie.station.toNat, toWord s.tie.enlistment.code ||| fld (bit s.tie.lock) 8,
    toWord (s.link.learned.getD 0) ]

/-- PROBE (R169). -/
def probeRequest (s : State) : State := answer .ok (wordsBytes (probeWords s)) s

/-! ## The meanings -/

/-- SETUP_WRITE (R171). -/
def execSetupWrite (index : Word) (words : List Word) (s : State) : Result :=
  if frameCountOk words.length then .next (onRequest (setupWriteRequest index words) s)
  else .fault .illFormedCommand

/-- SITE_CFG_WRITE (R89). -/
def execSiteCfgWrite (index : Word) (words : List Word) (s : State) : Result :=
  if frameCountOk words.length then .next (onRequest (siteCfgWriteRequest index words) s)
  else .fault .illFormedCommand

/-- PRELOAD (R102, R103). -/
def execPreload (site : SiteId) (position : Fin 64) (words : List Word) (s : State) : Result :=
  if frameCountOk words.length then .next (onRequest (preloadRequest site position.val words) s)
  else .fault .illFormedCommand

/-- TRUNCATION (R104). -/
def execTruncation (site : SiteId) (words : List Word) (s : State) : Result :=
  if frameCountOk words.length then .next (onRequest (truncationRequest site words) s)
  else .fault .illFormedCommand

/-- WRITE (R165). -/
def execWrite (area : BitVec 4) (index : Word) (words : List Word) (s : State) : Result :=
  if frameCountOk words.length then .next (onRequest (writeRequest area.toNat index words) s)
  else .fault .illFormedCommand

/-- DRAIN (R150). -/
def execDrain (ring : Word) (count : Nat) (s : State) : Result :=
  if frameCountOk count then .next (onRequest (drainRequest ring count) s) else .fault .illFormedCommand

/-- ENLIST (R128). -/
def execEnlist (value : Word) (s : State) : Result := .next (onRequest (enlistRequest value) s)

/-- ACK (R170). -/
def execAck (causes : Word) (s : State) : Result := .next (onRequest (ackRequest causes) s)

/-- PROBE (R169). -/
def execProbe (s : State) : Result := .next (onRequest probeRequest s)

/-- UNKNOWN_REQUEST_FRAME (R164). -/
def execUnknownRequestFrame (s : State) : Result := .next (onRequest (answer .badRequest []) s)

end Sys2Proof.Machine
end

