-- ==== Sys2Proof/Machine/LinkEvents.lean ====
section
/-! DEFINITION. The events of the link's lines: RESPONSE_END, ELIGIBLE_INTERVAL, LINE_IDLE_TIMEOUT, SETTLING_END,
SETTLING_EDGE, BREAK, FRAMING_ERROR, FRAME_GAP_TIMEOUT, BYTE_TAKEN (sections 10.1 and 10.2). -/
namespace Sys2Proof.Machine

/-- The state with the Link Port's own state changed. -/
def modifyLink (f : Link → Link) (s : State) : State := { s with link := f s.link }

/-! ## The receiver (R160, R161) -/

/-- The receiver after an eligible interval that agrees with the candidate: the third agreement locks (R160). -/
def Link.agree (l : Link) (candidate : Nat) : Link :=
  if l.agreement + 1 < 3 then { l with agreement := l.agreement + 1 }
  else
    { l with agreement := l.agreement + 1, learned := some candidate, receiver := .settling, frame := [],
             holdOff := none }

/-- The receiver after an eligible interval (R160). -/
def Link.interval (l : Link) (ticks : Nat) : Link :=
  match l.candidate with
  | none => { l with candidate := some ticks, agreement := 1 }
  | some candidate =>
    if ticks + 1 < candidate then { l with candidate := some ticks, agreement := 1 }
    else if ticks ≤ candidate + 1 then l.agree candidate
    else l

/-- ELIGIBLE_INTERVAL: in UNLOCKED, an interval of 6 to 2084 ticks is taken and any other is passed over (R160). The
falling edge that ends the interval begins the wait of LINE_IDLE_TIMEOUT afresh. -/
def intervalEvent (ticks : Nat) (s : State) : State :=
  match s.link.receiver with
  | .unlocked =>
    if 6 ≤ ticks && ticks ≤ 2084 then modifyLink (fun l => { l.interval ticks with lineHigh := 0 }) s
    else modifyLink (fun l => { l with lineHigh := 0 }) s
  | _ => s

/-- LINE_IDLE_TIMEOUT: in UNLOCKED the candidate is discarded and the agreement count made 0 (R160). -/
def idleEvent (s : State) : State :=
  match s.link.receiver with
  | .unlocked => modifyLink (fun l => { l with candidate := none, agreement := 0 }) s
  | _ => s

/-- SETTLING_END: the receiver becomes READY (R160). -/
def settlingEndEvent (s : State) : State :=
  match s.link.receiver with
  | .settling => modifyLink (fun l => { l with receiver := .ready, lineHigh := 0, holdOff := none }) s
  | _ => s

/-- SETTLING_EDGE: the wait of SETTLING begins again (R160). -/
def settlingEdgeEvent (s : State) : State :=
  match s.link.receiver with
  | .settling => modifyLink (fun l => { l with lineHigh := 0 }) s
  | _ => s

/-- The Link Port after a break (R161, R172): unlocked, the frame gone, the response cut (log entry 17); causes
kept. -/
def Link.broken (l : Link) : Link :=
  { l with receiver := .unlocked, learned := none, candidate := none, agreement := 0, frame := [],
           response := l.response.map fun r => { r with cut := true }, lineHigh := 0, holdOff := none }

/-- BREAK: a break is one in SETTLING and READY only (R161). -/
def breakEvent (s : State) : State :=
  match s.link.receiver with
  | .unlocked => s
  | _ => modifyLink Link.broken s

/-! ## Frames (R162, R163) -/

/-- FRAMING_ERROR: in READY the byte is discarded and the frame in progress with it, and the receiver holds off: it takes
no new start bit until the line has been high for one bit period (R162; log entry 28). -/
def framingErrorEvent (s : State) : State :=
  match s.link.receiver with
  | .ready => modifyLink (fun l => { l with frame := [], lineHigh := 0, holdOff := some 0 }) s
  | _ => s

/-- FRAME_GAP_TIMEOUT: the frame in progress is discarded (R163). -/
def frameGapEvent (s : State) : State := modifyLink (fun l => { l with frame := [] }) s

/-- The Link Port when the last byte of a response has been sent: bytes are taken again, and after the status byte of
a RESET the Link Port takes its own RESET values (R163, R168, R172). -/
def Link.responseEnd (l : Link) : Link :=
  match l.response with
  | some r =>
    if r.resetAfter then { l with response := none, frame := [], causes := 0, lineHigh := 0 }
    else { l with response := none, lineHigh := 0 }
  | none => l

/-- RESPONSE_END (R163). -/
def responseEndEvent (s : State) : State := modifyLink Link.responseEnd s

/-- The kind in a command byte (section 10.2). -/
def frameKind (command : Byte) : Nat := command.toNat / 16

/-- The area in a command byte (section 10.2). -/
def frameArea (command : Byte) : Nat := command.toNat % 16

/-- The length of a frame by its command byte and its count byte (R163). -/
def frameLength (command count : Byte) : Nat :=
  match frameKind command with
  | 1 => 4 + 2 * (count.toNat + 1)
  | 4 => 6
  | 5 => 6
  | 6 => 6
  | _ => 4

/-- The run command of a CONTROL by its code (R168); a code of 8 or more is refused. -/
def controlRequest (code : Nat) (s : State) : State :=
  match code with
  | 0 => startRequest s
  | 1 => pauseRequest s
  | 2 => stepRequest s
  | 3 => resumeRequest s
  | 4 => abortRequest s
  | 5 => stopAllRequest s
  | 6 => clearResultsRequest s
  | 7 => resetRequest s
  | _ => answer .badRequest [] s

/-- The request that a complete frame carries, by its kind (R164 to R170). `n` is the count, 1–256. -/
def frameRequest (kind area : Nat) (index : Word) (n : Nat) (payload : List Word) (s : State) : State :=
  match kind with
  | 1 => writeRequest area index payload s
  | 2 => readRequest area index n s
  | 3 => drainRequest index n s
  | 4 => controlRequest (payload.headD 0).toNat s
  | 5 => enlistRequest (payload.headD 0) s
  | 6 => ackRequest (payload.headD 0) s
  | 7 => probeRequest s
  | _ => answer .badRequest [] s

/-- A byte taken by frame assembly: it adds to the frame, and the frame's last byte completes it, which is then taken
as one request in the same step (R163, R164; log entry 3). -/
def assemble (frame : List Byte) (s : State) : State :=
  match frame with
  | command :: high :: low :: count :: payload =>
    if frame.length == frameLength command count then
      frameRequest (frameKind command) (frameArea command) (wordOf high low) (count.toNat + 1) (payloadWords payload) s
    else modifyLink (fun l => { l with frame := frame, lineHigh := 0 }) s
  | _ => modifyLink (fun l => { l with frame := frame, lineHigh := 0 }) s

/-- BYTE_TAKEN: a byte that arrives outside READY, during the hold-off after a framing error, or while a response is in
progress, is discarded (R160, R162, R163). -/
def byteEvent (byte : Byte) (s : State) : State := if s.linkTakes then assemble (s.link.frame ++ [byte]) s else s

/-! ## The meanings -/

/-- RESPONSE_END (R163). -/
def execResponseEnd (s : State) : Result := .next (responseEndEvent s)

/-- ELIGIBLE_INTERVAL (R160). -/
def execEligibleInterval (ticks : Nat) (s : State) : Result := .next (intervalEvent ticks s)

/-- LINE_IDLE_TIMEOUT (R160). -/
def execLineIdleTimeout (s : State) : Result := .next (idleEvent s)

/-- SETTLING_END (R160). -/
def execSettlingEnd (s : State) : Result := .next (settlingEndEvent s)

/-- BREAK (R161). -/
def execLineBreak (s : State) : Result := .next (breakEvent s)

/-- FRAMING_ERROR (R162). -/
def execFramingError (s : State) : Result := .next (framingErrorEvent s)

/-- FRAME_GAP_TIMEOUT (R163). -/
def execFrameGapTimeout (s : State) : Result := .next (frameGapEvent s)

/-- BYTE_TAKEN (R163). -/
def execByteTaken (byte : Byte) (s : State) : Result := .next (byteEvent byte s)

/-- SETTLING_EDGE (R160). -/
def execSettlingEdge (s : State) : Result := .next (settlingEdgeEvent s)

end Sys2Proof.Machine
end

