-- ==== Sys2Proof/Machine/Timebase.lean ====
section
/-! DEFINITION. One tick of the 1 µs timebase (00_scope.md, "Conventions"; R44, R134, R142): and what the block
does on an empty queue (log entries 1 and 39). -/
namespace Sys2Proof.Machine

/-- A running timer one µs later; it rests at its limit until its expiry is taken (R44, log entry 37). -/
def Timer.tick (t : Timer) : Timer := { t with elapsed := min (t.elapsed + 1) t.limit }

/-- A site's timers one µs later. -/
def Clocks.tick (c : Clocks) : Clocks := { poll := c.poll.map Timer.tick, deadline := c.deadline.map Timer.tick }

/-- The Tie Port one µs later: the time waited, and the rendezvous timer, which rests at the Setup timeout until its
expiry is taken (R134, R142). -/
def Tie.tick (t : Tie) (timeout : Nat) : Tie :=
  { t with
    wait := t.wait.map fun w => { w with waited := w.waited + 1 }
    timer := t.timer.map fun x => min (x + 1) (timeout * 1000) }

/-- Whether a line that has been high for so many µs has been high for one bit period: half the learned two-bit period,
in ticks of a tenth of a µs (R160, R162). -/
def holdOffOver (learned : Option Nat) (high : Nat) : Bool :=
  match learned with
  | some period => period ≤ 20 * high
  | none => true

/-- The hold-off after a framing error one µs later: it ends when the line has been high for one bit period, and a µs in
which the line is low begins that wait afresh (R162; log entry 28). -/
def Link.holdOffTick (l : Link) (high : Bool) : Option Nat :=
  match l.holdOff with
  | some n => if !high then some 0 else if holdOffOver l.learned (n + 1) then none else some (n + 1)
  | none => none

/-- The Link Port one µs later, the line high or not: the wait at hand, up to the longest that the receiver measures,
2500 µs (R160), and the hold-off after a framing error (R162). -/
def Link.tick (l : Link) (high : Bool) : Link :=
  { l with lineHigh := if high then min (l.lineHigh + 1) 2500 else 0, holdOff := l.holdOffTick high }

/-- The block one µs later, the receive line high or not. No expiry is taken here: the expiries are commands (log
entry 37). -/
def tickWith (high : Bool) (s : State) : State :=
  { s with
    clocks := s.clocks.map Clocks.tick
    tie := s.tie.tick s.setup.rendezvousTimeout
    link := s.link.tick high }

/-- The block one µs later. While the receiver holds off the level of the line is a free value (log entry 28); at any
other time it is taken as high, and nothing rests on it. -/
def tick (s : State) : State :=
  match s.link.holdOff with
  | some _ => { tickWith (Config.lineIsHigh s.free) s with free := s.free + 1 }
  | none => tickWith true s

/-- What the block does on an empty queue: one piece of the runner's work where it has work at hand, which takes no
time of the timebase (log entry 39), else one µs of the timebase (log entry 1). -/
def idle (s : State) : State := if s.busy then advance s else tick s

end Sys2Proof.Machine
end

