-- ==== Sys2Proof/Machine/Dispatch.lean ====
section
/-! DEFINITION. The effect of each command: one arm per constructor of Instr. -/
namespace Sys2Proof.Machine

def exec (i : Instr) (s : State) : Host.Outcome State Fault Refusal :=
  match i with
  | .start => Sys2Proof.Machine.execStart s
  | .pause => Sys2Proof.Machine.execPause s
  | .stepRun => Sys2Proof.Machine.execStepRun s
  | .resume => Sys2Proof.Machine.execResume s
  | .abort => Sys2Proof.Machine.execAbort s
  | .stopAll => Sys2Proof.Machine.execStopAll s
  | .clearResults => Sys2Proof.Machine.execClearResults s
  | .reset => Sys2Proof.Machine.execReset s
  | .responseEnd => Sys2Proof.Machine.execResponseEnd s
  | .setupWrite index words => Sys2Proof.Machine.execSetupWrite index words s
  | .siteCfgWrite index words => Sys2Proof.Machine.execSiteCfgWrite index words s
  | .preload site position words => Sys2Proof.Machine.execPreload site position words s
  | .truncation site words => Sys2Proof.Machine.execTruncation site words s
  | .write area index words => Sys2Proof.Machine.execWrite area index words s
  | .drain ring count => Sys2Proof.Machine.execDrain ring count s
  | .enlist value => Sys2Proof.Machine.execEnlist value s
  | .ack causes => Sys2Proof.Machine.execAck causes s
  | .probe => Sys2Proof.Machine.execProbe s
  | .powerOnReset straps => Sys2Proof.Machine.execPowerOnReset straps s
  | .eligibleInterval ticks => Sys2Proof.Machine.execEligibleInterval ticks s
  | .lineIdleTimeout => Sys2Proof.Machine.execLineIdleTimeout s
  | .settlingEnd => Sys2Proof.Machine.execSettlingEnd s
  | .lineBreak => Sys2Proof.Machine.execLineBreak s
  | .framingError => Sys2Proof.Machine.execFramingError s
  | .frameGapTimeout => Sys2Proof.Machine.execFrameGapTimeout s
  | .barrierPass peerVeto => Sys2Proof.Machine.execBarrierPass peerVeto s
  | .issue site => Sys2Proof.Machine.execIssue site s
  | .pollTimerExpiry site => Sys2Proof.Machine.execPollTimerExpiry site s
  | .statusResult site status => Sys2Proof.Machine.execStatusResult site status s
  | .deadlineExpiry site => Sys2Proof.Machine.execDeadlineExpiry site s
  | .dataPartEnd site => Sys2Proof.Machine.execDataPartEnd site s
  | .discardedTransactionEnd site => Sys2Proof.Machine.execDiscardedTransactionEnd site s
  | .rendezvousTimeout => Sys2Proof.Machine.execRendezvousTimeout s
  | .stopFall => Sys2Proof.Machine.execStopFall s
  | .stopRise => Sys2Proof.Machine.execStopRise s
  | .byteTaken byte => Sys2Proof.Machine.execByteTaken byte s
  | .settlingEdge => Sys2Proof.Machine.execSettlingEdge s
  | .readByte site byte => Sys2Proof.Machine.execReadByte site byte s
  | .unknownRequestFrame => Sys2Proof.Machine.execUnknownRequestFrame s

end Sys2Proof.Machine
end

