-- ==== Sys2Proof/Safety.lean ====
section
/-! DEFINITION. What stays true of the block's state at every step, and the words in which the statements about it are
made. -/
namespace Sys2Proof.Machine

/-! ## Setup (R171) -/

/-- Every Setup field lies in its range (the table of R171). -/
structure Setup.InRange (g : Setup) : Prop where
  blocksPerDie : 1 ≤ g.blocksPerDie ∧ g.blocksPerDie ≤ 4096
  pagesPerBlock : 1 ≤ g.pagesPerBlock ∧ g.pagesPerBlock ≤ 512
  pageBytes : 512 ≤ g.pageBytes ∧ g.pageBytes ≤ 16384 ∧ g.pageBytes % 512 = 0
  codewordBytes : 256 ≤ g.codewordBytes ∧ g.codewordBytes ≤ 4096 ∧ g.codewordBytes % 256 = 0
  threshold : g.threshold ≤ 65535
  matchCount : 1 ≤ g.matchCount ∧ g.matchCount ≤ 7
  pollInterval : 1 ≤ g.pollInterval ∧ g.pollInterval ≤ 255
  readDeadline : 1 ≤ g.readDeadline ∧ g.readDeadline ≤ 1048575
  programDeadline : 1 ≤ g.programDeadline ∧ g.programDeadline ≤ 1048575
  eraseDeadline : 1 ≤ g.eraseDeadline ∧ g.eraseDeadline ≤ 1048575
  siteStop : g.siteStop.getLsbD 6 = false
  mainframeStop : g.mainframeStop.getLsbD 6 = false
  listLimit : 1 ≤ g.listLimit ∧ g.listLimit ≤ 64
  rendezvousTimeout : g.rendezvousTimeout ≤ 65535
  watermark : 1 ≤ g.watermark ∧ g.watermark ≤ 2048

/-! ## The Result Log (R144, R145) -/

/-- A ring within its capacity, whose records carry consecutive sequence numbers up to the one before its next
sequence (R144, R145). -/
structure Ring.Sound (r : Ring) (capacity : Nat) : Prop where
  count : r.records.length ≤ capacity
  oldest : r.oldest < capacity
  next : r.next < 65536
  sequences : ∀ (k : Nat) (h : k < r.records.length),
    (r.records[k]).sequence = (r.next + 65536 - r.records.length + k) % 65536

/-- The log: ring 0 is sound at the mode's capacity, and ring 1 is sound in SPLIT and holds nothing in UNIFIED
(R144). -/
def State.LogSound (s : State) : Prop :=
  s.log.ring0.Sound (ringCapacity s.setup.logMode) ∧
    match s.setup.logMode with
    | .unified => s.log.ring1 = Ring.empty
    | .split => s.log.ring1.Sound 1024

/-! ## The Bad-Block Lists (R94, R96, R98) -/

/-- Every list holds at most 64 entries, each block once, and L lies in 1–64 (R94, R96). -/
def State.ListsSound (s : State) : Prop :=
  (1 ≤ s.setup.listLimit ∧ s.setup.listLimit ≤ 64) ∧
    ∀ i, (s.list i).length ≤ 64 ∧ ((s.list i).map Entry.block).Nodup

/-! ## The Site Table (R71, R75, R79) -/

/-- A site record: the accrued set holds the current set (R79), the reject fields are present while the site is
REJECTED (R75), and the totals lie in their ranges (R71). -/
structure Site.Sound (x : Site) : Prop where
  sets : x.current &&& x.accrued = x.current
  reject : x.state = .rejected ↔ x.reject.isSome = true
  failBits : x.failBits ≤ 4294967295
  failedPages : x.failedPages ≤ 65535

/-- Every site record is sound. -/
def State.SitesSound (s : State) : Prop := ∀ i, (s.site i).Sound

/-! ## The Tie Port (R129, R134, R137) -/

/-- The Tie Port: an enlisted station pulls at least one mark line (R129); a stop is in force while the own pull is
present or another station pulls STOP, and at no other time (R137); in the quiet states it waits at no barrier, pulls
no veto and, when enlisted, holds both mark lines (R129, R134); and the barrier number has 16 bits (R130). -/
structure State.TieSound (s : State) : Prop where
  mark : s.tie.enlistment = .enlisted → s.tie.markE = true ∨ s.tie.markO = true
  stop : s.tie.stop.isSome = (s.tie.ownPull.isSome || s.tie.peerStop)
  quiet : s.quiet = true →
    s.tie.wait = none ∧ s.tie.vote = none ∧ s.tie.heldVeto = none ∧ s.tie.timer = none ∧
      (s.tie.enlistment = .enlisted → s.tie.markE = true ∧ s.tie.markO = true)
  barrier : s.tie.barrier < 65536

/-! ## The trim search (R114 to R116) -/

/-- What the close of a trial of MAINFRAME scope by a combined verdict leaves in `t`, `s` being the state after the
passing (R114, R115): one TRIAL_RESULT record; r moved by the verdict in trials 1 to W; then a further trial at its
boundary, before trial W and after it when r is 2^W − 1; else the results of the member sites formed and their handing out
begun (R116, R118), or, with no member left, the search complete (R119, R120). -/
def State.TrialCloses (s t : State) (c : Search) (combined : Verdict) : Prop :=
  let top : Nat := 2 ^ c.fields.bits - 1
  let value : Nat := if combined = .fail ∧ c.trial ≤ c.fields.bits then
    c.stationValue + 2 ^ (c.fields.bits - c.trial) else c.stationValue
  let further : Prop := c.trial < c.fields.bits ∨ c.trial = c.fields.bits ∧ value = top
  let code : Option Nat := if value = top ∧ combined = .fail then none
    else some (if c.fields.polarity = .ascending then value else top - value)
  t.log = (offer (.trialResult
    { step := c.step, site := none, trial := c.trial, code := c.stationCode.getD 0, verdict := combined
      localVote := c.localVote, barrier := some s.tie.barrier }) s).log ∧
  (further →
    t.runner = { s.runner with state := .running, stepIndex := c.step + 1, point := .boundary } ∧
    t.search = some { c with
      phase := .body, trial := c.trial + 1, trialSet := if c.trial < c.fields.bits then c.trialSet else c.members
      stationValue := value, localVote := none, combined := none }) ∧
  (¬ further → c.members ≠ 0 →
    t.runner = { s.runner with state := .running, point := .handOut none } ∧
    t.search = some { c with
      phase := .final, stationValue := value, combined := some combined, outstanding := c.members
      results := Table.ofFn fun i => if c.members.has i then code else none }) ∧
  (¬ further → c.members = 0 →
    t.runner = { s.runner with state := .running, stepIndex := c.step + c.fields.body + 1, point := .boundary } ∧
    t.search = none)

/-! ## The requests of the link -/

/-- The commands that are requests of the link (section 10.2, R168). -/
def isRequest (i : Instr) : Bool :=
  match i with
  | .start => true
  | .pause => true
  | .stepRun => true
  | .resume => true
  | .abort => true
  | .stopAll => true
  | .clearResults => true
  | .reset => true
  | .setupWrite _ _ => true
  | .siteCfgWrite _ _ => true
  | .preload _ _ _ => true
  | .truncation _ _ => true
  | .write _ _ _ => true
  | .drain _ _ => true
  | .enlist _ => true
  | .ack _ => true
  | .probe => true
  | .unknownRequestFrame => true
  | .responseEnd => false
  | .powerOnReset _ => false
  | .eligibleInterval _ => false
  | .lineIdleTimeout => false
  | .settlingEnd => false
  | .lineBreak => false
  | .framingError => false
  | .frameGapTimeout => false
  | .barrierPass _ => false
  | .issue _ => false
  | .pollTimerExpiry _ => false
  | .statusResult _ _ => false
  | .deadlineExpiry _ => false
  | .dataPartEnd _ => false
  | .discardedTransactionEnd _ => false
  | .rendezvousTimeout => false
  | .stopFall => false
  | .stopRise => false
  | .byteTaken _ => false
  | .settlingEdge => false
  | .readByte _ _ => false

/-- The bytes of a frame: command byte, word index, count byte, payload (section 10.2). -/
def frameBytes (kind area : Nat) (index : Word) (n : Nat) (payload : List Word) : List Byte :=
  toByte (kind * 16 + area) :: (wordBytes index ++ toByte (n - 1) :: wordsBytes payload)

/-- The state after a list of commands, each of them answered with a next state; none where one stops. -/
def execAll (commands : List Instr) (s : State) : Option State :=
  match commands with
  | [] => some s
  | c :: rest =>
    match exec c s with
    | .next t => execAll rest t
    | .fault _ => none
    | .refused _ => none

/-- The range of a Setup word that R171 clamps as one field: its least and greatest value and the multiple it is
rounded down to; none for the words of deadlines, flags, sets and choices. -/
def setupRange (i : Nat) : Option (Nat × Nat × Nat) :=
  match i with
  | 0 => some (1, 4096, 1)
  | 1 => some (1, 512, 1)
  | 2 => some (512, 16384, 512)
  | 3 => some (256, 4096, 256)
  | 4 => some (0, 65535, 1)
  | 5 => some (1, 7, 1)
  | 6 => some (1, 255, 1)
  | 7 => some (0, 255, 1)
  | 8 => some (0, 255, 1)
  | 9 => some (0, 255, 1)
  | 18 => some (1, 64, 1)
  | 19 => some (0, 65535, 1)
  | 21 => some (0, 1, 1)
  | 22 => some (0, 1, 1)
  | 24 => some (1, 2048, 1)
  | 25 => some (0, 1, 1)
  | _ => none

/-- The bits that a Setup word of flags or of a set uses (R171). -/
def setupMask (i : Nat) : Option Nat :=
  match i with
  | 16 => some 64
  | 17 => some 64
  | 20 => some 2
  | 23 => some 2
  | 26 => some 32
  | _ => none

/-! ## Rounds -/

/-- Whether some site other than this one is WAITING: the round does not end with this site's part (R56). -/
abbrev State.othersWait (s : State) (i : SiteId) : Prop := ∃ j, j ≠ i ∧ (s.site j).state = .waiting

/-- Whether the runner has a stop in force yet to take (R17, R137). -/
def State.stopSettled (s : State) : Bool := s.tie.stop.isNone || s.tie.reported

/-- A site whose part in an ERASE or PROGRAM round, outside trial mode, ends with the next status byte: it completes the
run of matches and says that the operation failed (R46, R49), while another site of the round is WAITING and no stop
waits to be taken. -/
structure State.FailsNext (s : State) (i : SiteId) (p : Position) (status : Byte) : Prop where
  round : ∃ r pre, s.round = some r ∧ r.work = .page p pre ∧ r.trial = false
  kind : p.kind ≠ .read
  waiting : (s.site i).state = .waiting ∧ (s.site i).phase = some .awaitReady
  port : s.ports.get i = { current := some { tx := .status, live := true }, queued := none }
  ready : (status &&& s.setup.readyMask) = s.setup.readyValue ∧ (s.site i).runCount + 1 = s.setup.matchCount
  failed : (status &&& s.setup.failMask) ≠ 0
  others : s.othersWait i
  settled : s.stopSettled = true ∧ s.busy = false

/-- A site whose data part, of a READ round outside trial mode, has taken its last byte (R51), while another site of the
round is WAITING and no stop waits to be taken. -/
structure State.PageIsRead (s : State) (i : SiteId) (p : Position) (page : Nat) (x : Tally) : Prop where
  round : ∃ r pre, s.round = some r ∧ r.work = .page p pre ∧ r.trial = false
  kind : p.kind = .read ∧ p.page = some page
  waiting : (s.site i).state = .waiting
  tally : s.tallies.get i = some x ∧ x.taken = s.setup.pageBytes
  port : s.ports.get i = { current := some { tx := .readData p, live := true }, queued := none }
  others : s.othersWait i
  settled : s.stopSettled = true

/-- No filter decides, and the default action is LOG (R157). -/
abbrev State.logsByDefault (s : State) : Prop := (∀ f, (s.filters.get f).enabled = false) ∧ s.setup.defaultLog = true

/-- A condition is in neither stop mask (R82, R83). -/
abbrev State.unmasked (s : State) (c : Condition) : Prop :=
  s.setup.siteStop.has c = false ∧ s.setup.mainframeStop.has c = false

/-- A runner in RUNNING with a round in flight, no stop in force and no own pull (R17, R136). -/
abbrev State.runsFreely (s : State) : Prop :=
  s.runner.state = .running ∧ s.runner.roundInFlight = true ∧ s.tie.stop = none ∧ s.tie.ownPull = none

/-! ## The layouts of the link (R172, R174)

A field of n bits shows its number modulo 2^n. The fields of an absent item are not spoken of, but for its presence
bit. -/

/-- Bits `high` to `low` of a word, as a number. -/
def bitsOf (w : Word) (high low : Nat) : Nat := w.toNat / 2 ^ low % 2 ^ (high - low + 1)

/-- The place of a value in the list of its codes. -/
def codeIn {α : Type} [BEq α] (codes : List α) (x : α) : Nat := codes.idxOf x

/-- The halt causes in the order of their codes (R172, STATUS word 1). -/
def haltCodes : List HaltCause := [.hostStop, .peerStop, .ownCondition, .ownFilter, .ownTimeout]

/-- The conditions in the order of their bits (R172). -/
def conditionCodes : List Condition :=
  [.dataFail, .pageFail, .opFail, .readyTimeout, .badLimit, .searchOpen, .filterStop]

/-- STATUS words 0 to 4 (R172). -/
def State.ShowsRunner (s : State) : Prop :=
  let w := areaWord 7 s
  let r := s.runner
  bitsOf (w 0) 7 0 =
      codeIn [RunState.idle, .atMark, .running, .paused, .logStall, .halting, .halted, .done] r.state ∧
    (w 0).getLsbD 8 = r.pendingPause ∧ (w 0).getLsbD 9 = r.singleStep ∧ (w 0).getLsbD 10 = r.roundInFlight ∧
    bitsOf (w 1) 7 0 = r.stepIndex % 256 ∧ (w 1).getLsbD 15 = r.haltCause.isSome ∧
    (∀ c, r.haltCause = some c → bitsOf (w 1) 10 8 = codeIn haltCodes c) ∧
    (w 2).getLsbD 15 = r.repeatContext.isSome ∧
    (∀ c, r.repeatContext = some c → bitsOf (w 2) 7 0 = c.index % 256 ∧ (w 3).toNat = c.passes % 65536) ∧
    (w 4).getLsbD 15 = r.lastRefusal.isSome ∧
    (∀ c, r.lastRefusal = some c → bitsOf (w 4) 7 0 = c.step % 256 ∧
      bitsOf (w 4) 10 8 = codeIn [CheckReason.badKind, .badRange, .badSpan, .spanOverlap, .bodyKind] c.reason)

/-- STATUS words 5 to 12 (R172): the sweep position and the round record. -/
def State.ShowsRound (s : State) : Prop :=
  let w := areaWord 7 s
  let position := s.sweep.bind Sweep.position
  (w 5).getLsbD 15 = position.isSome ∧
    (∀ p, position = some p → bitsOf (w 5) 1 0 = codeIn [PageKind.erase, .program, .read] p.kind ∧
      (w 6).toNat = p.block % 65536 ∧ ∀ page, p.page = some page → (w 7).toNat = page % 65536) ∧
    (w 8).getLsbD 15 = s.round.isSome ∧
    (∀ r, s.round = some r →
      (∀ i : SiteId, r.participants.has i =
        if i.val < 16 then (w 12).getLsbD i.val else (w 11).getLsbD (i.val - 16)) ∧
      (∀ p pre, r.work = .page p pre → bitsOf (w 8) 2 0 = codeIn [PageKind.erase, .program, .read] p.kind ∧
        (w 9).toNat = p.block % 65536 ∧ ∀ page, p.page = some page → (w 10).toNat = page % 65536) ∧
      (∀ mask expected count deadline, r.work = .poll mask expected count deadline → bitsOf (w 8) 2 0 = 3) ∧
      (∀ address values, r.work = .setparam address values → bitsOf (w 8) 2 0 = 4))

/-- STATUS words 13 to 16 (R172): the search context. -/
def State.ShowsSearch (s : State) : Prop :=
  let w := areaWord 7 s
  (w 13).getLsbD 15 = s.search.isSome ∧
    (∀ c, s.search = some c →
      bitsOf (w 13) 3 0 = c.trial % 16 ∧ bitsOf (w 13) 5 4 = codeIn [SearchPhase.body, .vote, .final] c.phase ∧
      (w 13).getLsbD 6 = (c.fields.scope == .mainframe) ∧ (w 14).toNat = c.step % 65536 ∧
      (c.fields.scope = .mainframe → bitsOf (w 15) 15 8 = c.stationValue % 256 ∧
        ∀ code, c.stationCode = some code → bitsOf (w 15) 7 0 = code % 256) ∧
      (w 16).getLsbD 1 = c.localVote.isSome ∧ (∀ v, c.localVote = some v → (w 16).getLsbD 0 = (v == .fail)) ∧
      (w 16).getLsbD 3 = c.combined.isSome ∧ (∀ v, c.combined = some v → (w 16).getLsbD 2 = (v == .fail)))

/-- STATUS words 17 to 22 (R172): the Tie Port. Word 22 shows the five lines in the order MARK-E, MARK-O, VETO-E, VETO-O,
STOP from bit 4 down and from bit 12 down (log entry 40). -/
def State.ShowsTie (s : State) : Prop :=
  let w := areaWord 7 s
  let t := s.tie
  bitsOf (w 17) 3 0 = t.station.toNat ∧
    bitsOf (w 17) 5 4 = codeIn [Enlistment.notEnlisted, .enlisted, .leftOut] t.enlistment ∧
    (w 17).getLsbD 6 = t.lock ∧ (w 18).toNat = t.barrier % 65536 ∧ (w 19).getLsbD 3 = t.wait.isSome ∧
    (∀ x, t.wait = some x → bitsOf (w 19) 1 0 = codeIn [BarrierKind.start, .rendezvous, .trial] x.kind ∧
      (w 19).getLsbD 2 = (x.line == .odd)) ∧
    (w 19).getLsbD 5 = t.vote.isSome ∧ (∀ v, t.vote = some v → (w 19).getLsbD 4 = (v == .fail)) ∧
    (w 19).getLsbD 7 = t.sampledVeto.isSome ∧ (∀ v, t.sampledVeto = some v → (w 19).getLsbD 6 = (v == .fail)) ∧
    (w 19).getLsbD 9 = t.heldVeto.isSome ∧ (∀ p, t.heldVeto = some p → (w 19).getLsbD 8 = (p == .odd)) ∧
    (w 20).getLsbD 3 = t.ownPull.isSome ∧
    (∀ c, t.ownPull = some c → bitsOf (w 20) 2 0 = codeIn haltCodes c.toHalt) ∧
    (w 20).getLsbD 7 = t.stop.isSome ∧ (∀ c, t.stop = some c → bitsOf (w 20) 6 4 = codeIn haltCodes c) ∧
    (∀ x, t.timer = some x → (w 21).toNat = x / 1000 % 65536) ∧
    (∀ (k : Nat) (pulled : Bool), (ownDrive s)[k]? = some pulled →
      (w 22).getLsbD (4 - k) = pulled ∧ (pulled = true → (w 22).getLsbD (12 - k) = true)) ∧
    ((w 22).getLsbD 8 = true ↔ (s.isEnlisted = true ∧ t.ownPull.isSome = true) ∨ t.peerStop = true)

/-- STATUS words 23 to 28 (R172): the log and the attention causes. -/
def State.ShowsLog (s : State) : Prop :=
  let w := areaWord 7 s
  (w 23).getLsbD 0 = (s.setup.logMode == .split) ∧ (w 23).getLsbD 1 = (s.setup.logPolicy == .stall) ∧
    (w 23).getLsbD 2 = s.log.frozen ∧ (w 24).toNat = s.log.ring0.records.length % 65536 ∧
    (w 25).toNat = s.log.ring0.next % 65536 ∧
    (s.setup.logMode = .unified → w 26 = 0 ∧ w 27 = 0) ∧
    (s.setup.logMode = .split →
      (w 26).toNat = s.log.ring1.records.length % 65536 ∧ (w 27).toNat = s.log.ring1.next % 65536) ∧
    (∀ k, k < 5 → (w 28).getLsbD k = s.link.causes.getLsbD k) ∧ (w 28).getLsbD 15 = s.attn

/-- The 16 words of SITE_RESULT that belong to a site (R172). -/
def State.ShowsSite (s : State) (i : SiteId) : Prop :=
  let w := fun k => areaWord 4 s (16 * i.val + k)
  let x := s.site i
  bitsOf (w 0) 1 0 = codeIn [SiteState.off, .active, .waiting, .rejected] x.state ∧
    bitsOf (w 0) 3 2 = codeIn [none, some Phase.awaitReady, some Phase.awaitData] x.phase ∧
    bitsOf (w 0) 6 4 = x.runCount % 8 ∧ (w 0).getLsbD 7 = x.trialFailed ∧ (w 0).getLsbD 8 = x.reject.isSome ∧
    (w 0).getLsbD 9 = x.firstFail.isSome ∧ (w 0).getLsbD 10 = x.result.isSome ∧
    bitsOf (w 1) 7 0 = x.current.toNat ∧ bitsOf (w 1) 15 8 = x.accrued.toNat ∧
    (∀ r, x.reject = some r → bitsOf (w 2) 15 8 = codeIn conditionCodes r.cause ∧ bitsOf (w 2) 7 0 = r.step % 256) ∧
    (∀ f, x.firstFail = some f → (w 3).toNat = f.block % 65536 ∧ (w 4).toNat = f.page % 65536) ∧
    (w 5).toNat = x.failBits / 65536 % 65536 ∧ (w 6).toNat = x.failBits % 65536 ∧
    (w 7).toNat = x.failedPages % 65536 ∧ (w 8).toNat = x.worst % 65536 ∧
    (∀ v, x.result = some v → (w 9).toNat = v.toNat) ∧ (∀ k, 10 ≤ k → k < 16 → w k = 0)

/-- The words of BADLIST that belong to a site: its 64 positions, its count and their details (R172). -/
def State.ShowsList (s : State) (i : SiteId) : Prop :=
  let w := areaWord 5 s
  (w (2048 + i.val)).toNat = (s.list i).length % 65536 ∧
    ∀ j, j < 64 →
      let entry := w (64 * i.val + j)
      let detail := w (2080 + 64 * i.val + j)
      entry.getLsbD 15 = ((s.list i)[j]?).isSome ∧
      (∀ e, (s.list i)[j]? = some e → bitsOf entry 11 0 = e.block % 4096 ∧ entry.getLsbD 14 = e.found.isSome) ∧
      (∀ e f, (s.list i)[j]? = some e → e.found = some f →
        bitsOf detail 7 0 = f.step % 256 ∧ detail.getLsbD 8 = (f.cause == .opFail)) ∧
      (((s.list i)[j]?).bind Entry.found = none → detail = 0)

/-- The words of PLAN, SITE_CFG and FILTERS (R172). -/
def State.ShowsTables (s : State) : Prop :=
  (∀ (r : Fin 256) (k : Fin 16), areaWord 1 s (16 * r.val + k.val) = (s.plan.get r).get k) ∧
    (∀ i : SiteId, (areaWord 3 s (2 * i.val)).toNat = (if (s.site i).state = .off then 0 else 1) ∧
      (areaWord 3 s (2 * i.val + 1)).toNat = (s.site i).trim.toNat) ∧
    (∀ f : Fin 4,
      let w := fun k => areaWord 6 s (8 * f.val + k)
      let x := s.filters.get f
      (w 0).getLsbD 0 = x.enabled ∧
        bitsOf (w 0) 9 8 = codeIn [Action.ignore, .log, .rejectSite, .stopAll] x.action ∧
        (∀ i : SiteId, x.sites.has i = if i.val < 16 then (w 2).getLsbD i.val else (w 1).getLsbD (i.val - 16)) ∧
        (w 3).toNat = x.blockValue.toNat ∧ (w 4).toNat = x.blockMask.toNat ∧ (w 5).toNat = x.pageValue.toNat ∧
        (w 6).toNat = x.pageMask.toNat ∧ (w 7).toNat = x.minTotal % 65536)

/-- What an optional number shows in a record: 0 where it is absent (R174, "a field whose presence bit is clear reads
0"). -/
def shown (x : Option Nat) : Nat := x.getD 0

/-- The high and the low byte of a record's word (R174). -/
def bytesAre (w : Word) (high low : Nat) : Prop := bitsOf w 15 8 = high % 256 ∧ bitsOf w 7 0 = low % 256

/-- Words 2 to 7 of a PAGE_FAIL_REC and its presence bits (R174). -/
def PageFailRec.Shows (r : PageFailRec) (w : Nat → Word) : Prop :=
  (w 0).getLsbD 0 = r.page.isSome ∧ (w 0).getLsbD 1 = r.filter.isSome ∧ (w 0).getLsbD 2 = r.trialCode.isSome ∧
    bitsOf (w 2) 15 11 = r.site.val ∧ bitsOf (w 2) 10 9 = shown r.filter % 4 ∧ bitsOf (w 2) 7 0 = r.step % 256 ∧
    bitsOf (w 3) 15 14 = codeIn conditionCodes r.outcome % 4 ∧
    bitsOf (w 3) 13 12 = codeIn [Source.readData, .eraseStatus, .programStatus, .readStatus] r.source ∧
    bitsOf (w 3) 11 0 = r.block % 4096 ∧ bitsOf (w 4) 8 0 = shown r.page % 512 ∧
    bitsOf (w 4) 15 9 = shown (r.figures.map PageOutcome.overCount) % 128 ∧
    (∀ f, r.figures = some f → (w 5).toNat = f.worstTally % 65536) ∧
    (∀ x, r.figures = none → r.status = some x → (w 5).toNat = x.toNat) ∧
    (w 6).toNat = shown (r.figures.map PageOutcome.total) % 65536 ∧
    bytesAre (w 7) (shown (r.figures.map PageOutcome.worstIndex)) (shown (r.trialCode.map BitVec.toNat))

/-- Words 2 to 7 of a record and its presence bits (R174); a word that the kind does not use is 0. -/
def RecordBody.Shows (b : RecordBody) (w : Nat → Word) : Prop :=
  let unused (first : Nat) : Prop := ∀ k, first ≤ k → k < 8 → w k = 0
  match b with
  | .pageFail r => bitsOf (w 0) 15 8 = 1 ∧ r.Shows w
  | .runStart => bitsOf (w 0) 15 8 = 2 ∧ bitsOf (w 0) 3 0 = 0 ∧ unused 2
  | .stepBegin step label => bitsOf (w 0) 15 8 = 3 ∧ bitsOf (w 0) 3 0 = 0 ∧ bytesAre (w 2) step label ∧ unused 3
  | .markPassed r =>
    bitsOf (w 0) 15 8 = 4 ∧ (w 0).getLsbD 0 = r.label.isSome ∧ (w 0).getLsbD 1 = r.vote.isSome ∧
      bytesAre (w 2) r.step (shown r.label) ∧ (w 3).toNat = r.barrier % 65536 ∧
      bitsOf (w 4) 1 0 = codeIn [BarrierKind.start, .rendezvous, .trial] r.kind ∧
      (w 4).getLsbD 8 = (r.vote == some .fail) ∧ (w 4).getLsbD 9 = (r.sampled == .fail) ∧
      (w 5).toNat = r.waited % 65536 ∧ unused 6
  | .trialResult r =>
    bitsOf (w 0) 15 8 = 5 ∧ (w 0).getLsbD 0 = r.site.isSome ∧ (w 0).getLsbD 1 = r.localVote.isSome ∧
      (w 0).getLsbD 2 = r.barrier.isSome ∧ bytesAre (w 2) r.step (shown (r.site.map Fin.val)) ∧
      bytesAre (w 3) r.trial r.code ∧ (w 4).getLsbD 0 = (r.verdict == .fail) ∧
      (w 4).getLsbD 1 = (r.localVote == some .fail) ∧ (w 5).toNat = shown r.barrier % 65536 ∧ unused 6
  | .searchResult r =>
    bitsOf (w 0) 15 8 = 6 ∧ (w 0).getLsbD 0 = r.code.isSome ∧ (w 0).getLsbD 1 = r.trim.isSome ∧
      bytesAre (w 2) r.site.val r.step ∧ bytesAre (w 3) (shown r.code) (shown r.trim) ∧
      bitsOf (w 4) 15 8 = r.trials % 256 ∧ (w 4).getLsbD 0 = (r.scope == .mainframe) ∧ unused 5
  | .blockBad r =>
    bitsOf (w 0) 15 8 = 7 ∧ (w 0).getLsbD 0 = r.page.isSome ∧ bytesAre (w 2) r.site.val r.step ∧
      (w 3).toNat = r.block % 65536 ∧ (w 4).toNat = shown r.page % 65536 ∧
      bytesAre (w 5) (codeIn [ListCause.pageFail, .opFail] r.cause) r.count ∧ unused 6
  | .siteRejected r =>
    bitsOf (w 0) 15 8 = 8 ∧ (w 0).getLsbD 0 = r.block.isSome ∧ (w 0).getLsbD 1 = r.page.isSome ∧
      bytesAre (w 2) r.site.val r.step ∧ (w 3).toNat = codeIn conditionCodes r.cause ∧
      (w 4).toNat = shown r.block % 65536 ∧ (w 5).toNat = shown r.page % 65536 ∧ unused 6
  | .halted cause step barrier =>
    bitsOf (w 0) 15 8 = 9 ∧ bitsOf (w 0) 3 0 = 0 ∧ bytesAre (w 2) (shown (cause.map (codeIn haltCodes))) step ∧
      (w 3).toNat = barrier % 65536 ∧ unused 4
  | .markerRec step label => bitsOf (w 0) 15 8 = 10 ∧ bitsOf (w 0) 3 0 = 0 ∧ bytesAre (w 2) step label ∧ unused 3
  | .runEnd step way =>
    bitsOf (w 0) 15 8 = 11 ∧ bitsOf (w 0) 3 0 = 0 ∧
      bytesAre (w 2) (codeIn [EndWay.endStep, .planExhausted] way) step ∧ unused 3

/-- The eight words of a record (R174). -/
def LogRecord.Shows (r : LogRecord) : Prop :=
  let w : Nat → Word := fun k => r.words.getD k 0
  r.words.length = 8 ∧ bitsOf (w 0) 7 4 = r.station.toNat ∧ (w 1).toNat = r.sequence % 65536 ∧ r.body.Shows w

end Sys2Proof.Machine
end

