-- ==== Sys2Proof/Certificates/Slice0/Obligations.lean ====
section
/-! DEFINITION. The statements for the provers. `s.linkTakes` says that the receiver is READY and no response is in
progress (R163); `answer x data` begins the response of status `x` (R164); `settle` is the runner's work until it
waits, of which a step on an empty queue takes one piece. Each statement formalises the rules its docstring names. -/
open Sys2Proof Sys2Proof.Machine

/-! ## The step, the queue and the requests -/

/-- The step takes the command at the front of the queue. That commands wait in a queue, first in first out, is the
model's choice (log entry 1). -/
def Obligations.StepRunsFrontCommand : Prop :=
  ∀ (s : State) (c : Instr) (rest : List Instr), s.pending = c :: rest → step s = exec c { s with pending := rest }

/-- The model's choice (log entries 1, 28, 37 and 39). On an empty queue a step is one piece of the runner's work where
it has work at hand, and else one µs of the timebase: every running timer moves by one up to its limit, and nothing else
changes but the count of the line's rest. A hold-off after a framing error ends when the line has been high for one bit
period, and begins afresh when the line is low; whether it is high in a µs of a hold-off is a free value, of which each
such µs takes one. Before an event that only the runner's work can bring about, at a port that carries no discarded
transaction which the event could end, the work at hand is done. -/
def Obligations.EmptyQueueIsOneTick : Prop :=
  (∀ s : State, s.pending = [] → s.busy = true → step s = .next (advance s)) ∧
  (∀ s : State, s.pending = [] → s.busy = false →
    ∃ t, step s = .next t ∧
      t = { s with clocks := t.clocks, tie := { s.tie with wait := t.tie.wait, timer := t.tie.timer }, free := t.free,
                   link := { s.link with lineHigh := t.link.lineHigh, holdOff := t.link.holdOff } } ∧
      (∀ i, (t.clocks.get i).poll =
          (s.clocks.get i).poll.map (fun x => { x with elapsed := min (x.elapsed + 1) x.limit }) ∧
        (t.clocks.get i).deadline =
          (s.clocks.get i).deadline.map (fun x => { x with elapsed := min (x.elapsed + 1) x.limit })) ∧
      t.tie.wait = s.tie.wait.map (fun w => { w with waited := w.waited + 1 }) ∧
      t.tie.timer = s.tie.timer.map (fun x => min (x + 1) (s.setup.rendezvousTimeout * 1000)) ∧
      (s.link.holdOff = none →
        t.link.holdOff = none ∧ t.free = s.free ∧ t.link.lineHigh = min (s.link.lineHigh + 1) 2500) ∧
      (∀ n period, s.link.holdOff = some n → s.link.learned = some period → t.free = s.free + 1 ∧
        t.link.holdOff =
          if Config.lineIsHigh s.free = true then (if period ≤ 20 * (n + 1) then none else some (n + 1)) else some 0)) ∧
  (∀ (s : State) (i : SiteId) (status : Byte) (peerVeto : Bool), (settle s).busy = false →
    ((s.port i).discards .sent = false → ((settle s).port i).discards .sent = false →
      exec (.issue i) s = exec (.issue i) (settle s)) ∧
    ((s.port i).discards .status = false → ((settle s).port i).discards .status = false →
      exec (.statusResult i status) s = exec (.statusResult i status) (settle s)) ∧
    exec (.pollTimerExpiry i) s = exec (.pollTimerExpiry i) (settle s) ∧
    exec (.deadlineExpiry i) s = exec (.deadlineExpiry i) (settle s) ∧
    exec (.barrierPass peerVeto) s = exec (.barrierPass peerVeto) (settle s) ∧
    exec .rendezvousTimeout s = exec .rendezvousTimeout (settle s))

/-- A command is answered with a next state exactly when a frame can carry it; every other term faults. -/
def Obligations.EveryWellFormedCommandIsTaken : Prop :=
  ∀ (s : State) (c : Instr),
    (c.wellFormed = true → ∃ t, exec c s = .next t) ∧
    (c.wellFormed = false → exec c s = .fault .illFormedCommand)

/-- R160, R162, R163: outside READY, while a response is in progress, and while the receiver takes no new start bit after
a framing error, the bytes of a frame are discarded, and the request is lost without an answer and without an
effect. -/
def Obligations.RequestsAreLostOutsideReady : Prop :=
  ∀ (s : State) (c : Instr), isRequest c = true → c.wellFormed = true →
    (s.link.receiver ≠ .ready ∨ s.link.response.isSome = true ∨ s.link.holdOff.isSome = true) → exec c s = .next s

/-! ## Invariants -/

/-- The state after reset meets every invariant. -/
def Obligations.ResetMeetsInvariants : Prop :=
  State.reset.setup.InRange ∧ State.reset.LogSound ∧ State.reset.ListsSound ∧ State.reset.SitesSound ∧
    State.reset.TieSound

/-- R171: every step keeps every Setup field in its range. -/
def Obligations.SetupStaysInRange : Prop :=
  ∀ s t : State, s.setup.InRange → step s = .next t → t.setup.InRange

/-- R144, R145: every step keeps the rings within their capacity and their records' sequence numbers consecutive. -/
def Obligations.LogStaysSound : Prop :=
  ∀ s t : State, s.LogSound → step s = .next t → t.LogSound

/-- R94: every step keeps every list at 64 entries or fewer, with no block twice. -/
def Obligations.ListsStaySound : Prop :=
  ∀ s t : State, s.ListsSound → step s = .next t → t.ListsSound

/-- R71, R75, R79: every step keeps the current conditions among the accrued ones, the reject fields present while a
site is REJECTED and at no other time, and the totals in their ranges. -/
def Obligations.SitesStaySound : Prop :=
  ∀ s t : State, s.SitesSound → step s = .next t → t.SitesSound

/-- R129, R130, R134, R137: every step keeps an enlisted station pulling a mark line, both in the quiet states, with
no veto, wait or timer there; and a stop in force exactly while the own pull is present or STOP is pulled by
another. -/
def Obligations.TieStaysSound : Prop :=
  ∀ s t : State, s.TieSound → step s = .next t → t.TieSound

/-! ## Run commands -/

/-- R10, R7, R131, R134: START accepted at an enlisted station. -/
def Obligations.StartArrivesAtBarrierZero : Prop :=
  ∀ s : State, s.linkTakes = true → (s.runner.state = .idle ∨ s.runner.state = .done) → s.tie.stop = none →
    planCheck s.setup s.plan = none → s.tie.enlistment = .enlisted →
    ∃ t, exec .start s = .next t ∧
      t = { s with runner := t.runner, sites := t.sites, tie := t.tie, log := t.log, link := t.link } ∧
      t.link.response = some { bytes := [0], cut := false, resetAfter := false } ∧
      (∀ i, t.site i = { s.site i with current := 0 }) ∧
      t.log.frozen = false ∧
      ((if s.setup.logMode = .unified then t.log.ring0 else t.log.ring1).records.getLast?).map LogRecord.body =
        some .runStart ∧
      t.runner = { state := .atMark, stepIndex := 0, repeatContext := none, pendingPause := false,
                   singleStep := false, haltCause := none, roundInFlight := s.runner.roundInFlight,
                   lastRefusal := none, point := .mark } ∧
      t.tie = { s.tie with
        barrier := 0, wait := some { kind := .start, line := .even, waited := 0 }, vote := none, sampledVeto := none,
        heldVeto := none, markE := false, markO := true,
        timer := if s.setup.rendezvousTimeout = 0 then none else some 0 }

/-- R10, R7: the refusals of START, in order; only a failed check writes, its reason and step. -/
def Obligations.StartRefusals : Prop :=
  ∀ s : State, s.linkTakes = true →
    (s.runner.state ≠ .idle → s.runner.state ≠ .done → exec .start s = .next (answer .wrongState [] s)) ∧
    (∀ c, (s.runner.state = .idle ∨ s.runner.state = .done) → s.tie.stop = some c →
      exec .start s = .next (answer .stopActive [] s)) ∧
    (∀ r, (s.runner.state = .idle ∨ s.runner.state = .done) → s.tie.stop = none → planCheck s.setup s.plan = some r →
      exec .start s =
        .next (answer .planInvalid [] { s with runner := { s.runner with lastRefusal := some r } }))

/-- R7, R8, R10, R13, R16, R133: a station that is not enlisted, with a plan that begins with END and its note flag
clear: START passes barrier 0 at once and leaves the runner RUNNING at the boundary before step 0, and its work goes
from there to DONE. -/
def Obligations.EmptyPlanRunsToDone : Prop :=
  ∀ s : State, s.linkTakes = true → (s.runner.state = .idle ∨ s.runner.state = .done) → s.tie.stop = none →
    s.tie.enlistment ≠ .enlisted → kindCode (s.plan.get 0) = 0 → noteOf (s.plan.get 0) = false →
    s.setup.logPolicy = .wrap → s.search = none →
    ∃ t, exec .start s = .next t ∧
      t = { s with runner := t.runner, sites := t.sites, tie := t.tie, log := t.log, link := t.link } ∧
      t.runner = { state := .running, stepIndex := 0, repeatContext := none, pendingPause := false,
                   singleStep := false, haltCause := none, roundInFlight := s.runner.roundInFlight,
                   lastRefusal := none, point := .boundary } ∧
      t.tie.barrier = 1 ∧ t.tie.sampledVeto = some .pass ∧ t.tie.wait = none ∧ t.tie.timer = none ∧
      let u := settle t
      u.runner = { t.runner with state := .done, point := .rest } ∧ u.tie.barrier = 1 ∧
        u.hasCause .runEnded = true ∧
        ((if s.setup.logMode = .unified then u.log.ring0 else u.log.ring1).records.getLast?).map LogRecord.body =
          some (.runEnd 0 .endStep) ∧
        u = { t with runner := u.runner, sites := u.sites, tie := u.tie, log := u.log
                     link := { t.link with causes := u.link.causes } }

/-- R19: PAUSE sets the pending pause in RUNNING, AT_MARK and LOG_STALL, and is refused in every other state. -/
def Obligations.PauseSetsPendingPause : Prop :=
  ∀ s : State, s.linkTakes = true →
    ((s.runner.state = .running ∨ s.runner.state = .atMark ∨ s.runner.state = .logStall) →
      exec .pause s = .next (answer .ok [] { s with runner := { s.runner with pendingPause := true } })) ∧
    (s.runner.state ≠ .running → s.runner.state ≠ .atMark → s.runner.state ≠ .logStall →
      exec .pause s = .next (answer .wrongState [] s))

/-- R11, R13, R20, R21: STEP and RESUME in PAUSED set the runner RUNNING at its boundary, STEP with the single step set.
Over a MARKER step outside a search, STEP's work is that one step and the pause at the next boundary. Outside PAUSED
both are refused with WRONG_STATE. -/
def Obligations.StepRunsOneStep : Prop :=
  (∀ s : State, s.linkTakes = true → s.runner.state = .paused →
    exec .stepRun s = .next (answer .ok []
      { s with runner := { s.runner with state := .running, singleStep := true, point := .boundary } }) ∧
    exec .resume s = .next (answer .ok []
      { s with runner := { s.runner with state := .running, point := .boundary } })) ∧
  (∀ (s : State) (label : Nat), s.linkTakes = true → s.runner.state = .paused → s.runner.pendingPause = false →
      s.headroomShort = false → s.tie.stop = none → s.search = none → s.runner.stepIndex < 255 →
      stepAt s.plan s.runner.stepIndex = some { note := false, label := label, body := .marker } →
      ∃ t, exec .stepRun s = .next t ∧
        let u := settle t
        u.runner = { s.runner with state := .paused, stepIndex := s.runner.stepIndex + 1, pendingPause := false,
                                   singleStep := false, point := .boundary } ∧
        u.hasCause .paused = true ∧ (∀ i, u.site i = { s.site i with current := 0 }) ∧
        u.link.response = some { bytes := [0], cut := false, resetAfter := false } ∧
        u.log = (offer (.markerRec s.runner.stepIndex label) s).log ∧
        u = { s with runner := u.runner, sites := u.sites, log := u.log, link := u.link }) ∧
  (∀ s : State, s.linkTakes = true → s.runner.state ≠ .paused →
    exec .stepRun s = .next (answer .wrongState [] s) ∧ exec .resume s = .next (answer .wrongState [] s))

/-- R13, R21, R129: RESUME before an END step outside a search: its work enters DONE, with the quiet drive, a RUN_END
record and the cause RUN_ENDED. -/
def Obligations.ResumeRunsEndStep : Prop :=
  ∀ (s : State) (label : Nat), s.linkTakes = true → s.runner.state = .paused → s.runner.pendingPause = false →
    s.headroomShort = false → s.tie.stop = none → s.search = none →
    stepAt s.plan s.runner.stepIndex = some { note := false, label := label, body := .endStep } →
    ∃ t, exec .resume s = .next t ∧
      let u := settle t
      u.runner = { s.runner with state := .done, repeatContext := none, pendingPause := false, singleStep := false,
                                 point := .rest } ∧
      u.tie = { s.tie with markE := true, markO := true, heldVeto := none, vote := none, wait := none,
                           timer := none } ∧
      u.hasCause .runEnded = true ∧ (∀ i, u.site i = { s.site i with current := 0 }) ∧
      u.link.response = some { bytes := [0], cut := false, resetAfter := false } ∧
      u.log = (offer (.runEnd s.runner.stepIndex .endStep) s).log ∧
      u = { s with runner := u.runner, sites := u.sites, tie := u.tie, log := u.log, link := u.link }

/-- R13, R15, R20: STEP over a REPEAT step outside a search: with passes remaining its work jumps back over the span,
with one pass fewer; with none its context is made absent and the step completes. Either way it pauses at that
boundary. -/
def Obligations.RepeatJumpsOrCompletes : Prop :=
  ∀ (s : State) (label span count : Nat), s.linkTakes = true → s.runner.state = .paused →
    s.runner.pendingPause = false → s.headroomShort = false → s.tie.stop = none → s.search = none →
    s.runner.stepIndex < 255 →
    stepAt s.plan s.runner.stepIndex = some { note := false, label := label, body := .repeatStep span count } →
    let context : RepeatContext := s.runner.repeatContext.getD { index := s.runner.stepIndex, passes := count - 1 }
    let paused : Runner := { s.runner with state := .paused, pendingPause := false, singleStep := false, point := .boundary }
    ∃ t, exec .stepRun s = .next t ∧
      let u := settle t
      u = { s with runner := u.runner, sites := u.sites, link := u.link } ∧
      u.hasCause .paused = true ∧ (∀ i, u.site i = { s.site i with current := 0 }) ∧
      (context.passes = 0 →
        u.runner = { paused with repeatContext := none, stepIndex := s.runner.stepIndex + 1 }) ∧
      (0 < context.passes →
        u.runner = { paused with
          repeatContext := some { index := context.index, passes := context.passes - 1 }
          stepIndex := s.runner.stepIndex - span })

/-- R13, R21, R42, R43, R44, R53: RESUME before a POLL step outside a search, with some site ACTIVE: its work puts the
round of the step in flight with every ACTIVE site as its participant, WAITING with run count 0, its deadline and poll
timers started from 0; a port still busy has the first status read queued; every other site keeps its state, port and
timers. R26, R29, R30, R35, R36, R37, R42, R43: RESUME before a SWEEP step: its work creates the sweep context, makes
the first round the position, and puts it in flight with every ACTIVE site whose list does not hold the block, or every
ACTIVE site with the visit-listed flag; each participant's port begins the transaction, or queues it when busy, a
PROGRAM with the bytes of the page's stream; every site left out keeps its state, port, timers and stream. -/
def Obligations.PollRoundIsFormed : Prop :=
  (∀ (s : State) (label : Nat) (mask expected : Byte) (count deadline : Nat), s.linkTakes = true →
    s.runner.state = .paused → s.runner.pendingPause = false → s.headroomShort = false → s.tie.stop = none →
    s.search = none → (∃ i, (s.site i).state = .active) →
    stepAt s.plan s.runner.stepIndex =
      some { note := false, label := label, body := .poll mask expected count deadline } →
    ∃ t, exec .resume s = .next t ∧
      let u := settle t
      u = { s with runner := u.runner, round := u.round, sites := u.sites, clocks := u.clocks, ports := u.ports
                   streams := u.streams, link := (answer .ok [] s).link } ∧
      u.runner = { s.runner with state := .running, pendingPause := s.runner.singleStep, singleStep := false
                                 roundInFlight := true, point := .inRound .poll } ∧
      (∃ r, u.round = some r ∧ r.work = .poll mask expected count deadline ∧ r.trial = false ∧
        ∀ i, r.participants.has i = true ↔ (s.site i).state = .active) ∧
      ∀ i,
        ((s.site i).state = .active →
          u.site i = { s.site i with state := .waiting, phase := some .awaitReady, runCount := 0, current := 0 } ∧
          u.clocks.get i = { poll := some { limit := s.setup.pollInterval, elapsed := 0 }
                             deadline := some { limit := deadline, elapsed := 0 } } ∧
          ((s.ports.get i).current = none → u.ports.get i = s.ports.get i) ∧
          (∀ c, (s.ports.get i).current = some c → u.ports.get i = { current := some c, queued := some .status })) ∧
        ((s.site i).state ≠ .active →
          u.site i = { s.site i with current := 0 } ∧ u.clocks.get i = s.clocks.get i ∧
          u.ports.get i = s.ports.get i ∧ u.streams.get i = s.streams.get i)) ∧
  (∀ (s : State) (label : Nat) (f : SweepFields), s.linkTakes = true → s.runner.state = .paused →
    s.runner.pendingPause = false → s.headroomShort = false → s.tie.stop = none → s.search = none →
    stepAt s.plan s.runner.stepIndex = some { note := false, label := label, body := .sweep f } →
    let p := firstPosition f
    let takesPart (i : SiteId) : Prop :=
      (s.site i).state = .active ∧ (f.visitListed = true ∨ ∀ e ∈ s.list i, e.block ≠ p.block)
    let sent : Tx := if p.kind = .program then
        .program p (pageStream f s.setup.pagesPerBlock s.setup.pageBytes p.block (p.page.getD 0))
      else .page p (f.op == .erase && f.invert)
    (∃ i, takesPart i) →
    ∃ t, exec .resume s = .next t ∧
      let u := settle t
      u = { s with runner := u.runner, round := u.round, sites := u.sites, clocks := u.clocks, ports := u.ports
                   streams := u.streams, sweep := u.sweep, link := (answer .ok [] s).link } ∧
      u.sweep = some { fields := f, position := some p, successor := none } ∧
      u.runner = { s.runner with state := .running, pendingPause := s.runner.singleStep, singleStep := false
                                 roundInFlight := true, point := .inRound .sweep } ∧
      (∃ r, u.round = some r ∧ r.work = .page p (f.op == .erase && f.invert) ∧ r.trial = false ∧
        ∀ i, r.participants.has i = true ↔ takesPart i) ∧
      ∀ i,
        (takesPart i →
          u.site i = { s.site i with state := .waiting, phase := some .awaitReady, runCount := 0, current := 0 } ∧
          u.clocks.get i = { poll := none, deadline := none } ∧
          ((s.ports.get i).current = none →
            u.ports.get i = { current := some { tx := sent, live := true }, queued := (s.ports.get i).queued }) ∧
          (∀ c, (s.ports.get i).current = some c → u.ports.get i = { current := some c, queued := some sent }) ∧
          (p.kind = .program → f.pattern = .random → u.streams.get i =
            some (toWord (f.seed + 257 * (p.block * s.setup.pagesPerBlock + p.page.getD 0))))) ∧
        (¬ takesPart i →
          u.site i = { s.site i with current := 0 } ∧ u.clocks.get i = s.clocks.get i ∧
          u.ports.get i = s.ports.get i ∧ u.streams.get i = s.streams.get i))

/-- R9, R22, R58, R76, R122, R139: ABORT. In IDLE it releases the own pull, clears the trial-failed flags and leaves
the ports idle; in every other state it drops round, sweep, search and port transactions, returns WAITING sites to
ACTIVE and resets the runner and the Tie Port. Everything else is kept. -/
def Obligations.AbortReturnsToIdle : Prop :=
  ∀ s : State, s.linkTakes = true →
    ∃ t, exec .abort s = .next t ∧
      t.link = (answer .ok [] s).link ∧ t.plan = s.plan ∧ t.setup = s.setup ∧ t.filters = s.filters ∧
      t.lists = s.lists ∧ t.log = s.log ∧ t.free = s.free ∧ t.pending = s.pending ∧
      (∀ i, (t.ports.get i).current = none ∧ (t.ports.get i).queued = none) ∧
      t.tie.ownPull = none ∧ t.tie.stop = (if s.tie.peerStop then some .peerStop else none) ∧
      t.tie.station = s.tie.station ∧ t.tie.enlistment = s.tie.enlistment ∧ t.tie.lock = s.tie.lock ∧
      t.tie.peerStop = s.tie.peerStop ∧
      (s.runner.state = .idle →
        t.runner = s.runner ∧ (∀ i, t.site i = { s.site i with trialFailed := false }) ∧
        t.tie = { s.tie with ownPull := none, stop := t.tie.stop, reported := t.tie.reported } ∧
        t.round = s.round ∧ t.sweep = s.sweep ∧ t.search = s.search ∧ t.clocks = s.clocks ∧
        t.tallies = s.tallies ∧ t.streams = s.streams) ∧
      (s.runner.state ≠ .idle →
        t.runner.state = .idle ∧ t.runner.stepIndex = 0 ∧ t.runner.repeatContext = none ∧
        t.runner.pendingPause = false ∧ t.runner.singleStep = false ∧ t.runner.haltCause = none ∧
        t.runner.roundInFlight = false ∧ t.runner.lastRefusal = s.runner.lastRefusal ∧
        t.round = none ∧ t.sweep = none ∧ t.search = none ∧
        (∀ i, t.clocks.get i = { poll := none, deadline := none } ∧ t.tallies.get i = none ∧
          t.streams.get i = none ∧
          t.site i = { s.site i with
            state := if (s.site i).state = .waiting then .active else (s.site i).state
            phase := none, trialFailed := false }) ∧
        t.tie.barrier = 0 ∧ t.tie.wait = none ∧ t.tie.vote = none ∧ t.tie.sampledVeto = none ∧
        t.tie.heldVeto = none ∧ t.tie.timer = none ∧
        (s.tie.enlistment = .enlisted → t.tie.markE = true ∧ t.tie.markO = true))

/-- R17, R18, R23, R121, R129, R136, R137: STOP_ALL. With no own pull and no stop in force it pulls STOP with cause
HOST_STOP, and the runner halts as its state says; while the results of a search are handed out it only holds the stop. While the own pull is present, and the stop in force has been taken, it
changes nothing but the response: the first cause stands. With a reported stop in force and no own pull the own pull
is made present. -/
def Obligations.StopAllPullsStop : Prop :=
  (∀ s : State, s.linkTakes = true → s.tie.ownPull = none → s.tie.stop = none →
      ∃ t, exec .stopAll s = .next t ∧
        t = { s with runner := t.runner, tie := t.tie, log := t.log, link := t.link } ∧
        t.link.response = some { bytes := [0], cut := false, resetAfter := false } ∧
        t.tie.ownPull = some .hostStop ∧ t.tie.stop = some .hostStop ∧ t.tie.barrier = s.tie.barrier ∧
        ((s.runner.state = .running ∧ s.runner.roundInFlight = true) →
          t.runner = { s.runner with state := .halting, haltCause := some .hostStop } ∧
          t.log.frozen = (s.log.frozen || s.setup.freeze) ∧ t.link.causes = s.link.causes) ∧
        (∀ held, s.runner.state = .running → s.runner.roundInFlight = false → s.runner.point = .handOut held →
          t.runner = { s.runner with point := .handOut (some (held.getD .hostStop)) } ∧
          t.tie = { s.tie with ownPull := some .hostStop, stop := some .hostStop, reported := true } ∧
          t.log = s.log ∧ t.link.causes = s.link.causes) ∧
        ((s.runner.state = .running ∧ s.runner.roundInFlight = false ∧ (∀ held, s.runner.point ≠ .handOut held) ∨
            s.runner.state = .atMark ∨ s.runner.state = .paused ∨ s.runner.state = .logStall) →
          t.runner = { s.runner with
            state := .halted, pendingPause := false, singleStep := false, point := .rest
            haltCause := some (s.runner.haltCause.getD .hostStop) } ∧
          t.tie.wait = none ∧ t.tie.vote = none ∧ t.tie.heldVeto = none ∧ t.tie.timer = none ∧
          t.tie.markE = true ∧ t.tie.markO = true ∧ t.hasCause .halted = true ∧
          t.log.frozen = (s.log.frozen || s.setup.freeze) ∧
          (s.log.frozen = false →
            ((if s.setup.logMode = .unified then t.log.ring0 else t.log.ring1).records.getLast?).map LogRecord.body =
              some (.halted t.runner.haltCause s.runner.stepIndex s.tie.barrier))) ∧
        ((s.runner.state = .idle ∨ s.runner.state = .done ∨ s.runner.state = .halting ∨ s.runner.state = .halted) →
          t.runner = s.runner ∧ t.log = s.log ∧ t.link.causes = s.link.causes)) ∧
  (∀ s : State, s.linkTakes = true → s.tie.reported = true →
      (s.tie.ownPull.isSome = true → exec .stopAll s = .next (answer .ok [] s)) ∧
      (s.tie.ownPull = none → s.tie.stop.isSome = true →
        exec .stopAll s = .next (answer .ok [] { s with tie := { s.tie with ownPull := some .hostStop } })))

/-- R24, R73, R92, R105, R152: CLEAR_RESULTS in the quiet states, and its refusal in the others. That the oldest slot of an
emptied ring is 0 is the model's choice (log entry 25). -/
def Obligations.ClearResultsClears : Prop :=
  ∀ s : State, s.linkTakes = true →
    (s.quiet = false → exec .clearResults s = .next (answer .wrongState [] s)) ∧
    (s.quiet = true → ∃ t, exec .clearResults s = .next t ∧
      t = { s with sites := t.sites, lists := t.lists, log := t.log, link := (answer .ok [] s).link } ∧
      (∀ i, t.site i = { s.site i with
        state := if (s.site i).state = .rejected then .active else (s.site i).state
        phase := none, current := 0, accrued := 0, reject := none, firstFail := none, failBits := 0
        failedPages := 0, worst := 0, result := none, trialFailed := false }) ∧
      (∀ i, t.list i = (s.list i).filter fun e => e.found.isNone) ∧
      t.log = { s.log with ring0 := { records := [], oldest := 0, next := 0 }
                           ring1 := { records := [], oldest := 0, next := 0 } })

/-- R24, R140, R168, R172: RESET gives every block but the Link Port its RESET values; the receiver and its learned
period, the causes until the status byte has been sent, the straps, the enlistment and its lock are kept. Two of the
values are the model's choice: the oldest slot 0 of an empty ring (log entry 25) and the runner's point at rest (log
entry 27). -/
def Obligations.ResetKeepsLinkAndEnlistment : Prop :=
  ∀ s : State, s.linkTakes = true →
    ∃ t, exec .reset s = .next t ∧
      t = { State.reset with tie := t.tie, link := t.link, free := s.free, pending := s.pending } ∧
      t.link = { s.link with frame := [], lineHigh := 0,
                             response := some { bytes := [0], cut := false, resetAfter := true } } ∧
      t.tie.station = s.tie.station ∧ t.tie.enlistment = s.tie.enlistment ∧ t.tie.lock = s.tie.lock ∧
      t.tie.barrier = 0 ∧ t.tie.wait = none ∧ t.tie.vote = none ∧ t.tie.sampledVeto = none ∧
      t.tie.heldVeto = none ∧ t.tie.ownPull = none ∧ t.tie.timer = none ∧ t.tie.peerStop = s.tie.peerStop ∧
      t.tie.stop = (if s.tie.peerStop then some .peerStop else none) ∧
      (s.tie.enlistment = .enlisted → t.tie.markE = true ∧ t.tie.markO = true)

/-! ## Requests -/

/-- R164, R165, R171: SETUP_WRITE is refused past word 26 and outside the quiet states, in this order. Accepted, it
changes Setup and, through a change of log mode or policy, the log, and nothing else. That the oldest slot of an
emptied ring is 0 is the model's choice (log entry 25). -/
def Obligations.SetupWriteIsJudged : Prop :=
  ∀ (s : State) (index : Word) (words : List Word), s.linkTakes = true → 1 ≤ words.length → words.length ≤ 256 →
    (27 < index.toNat + words.length → exec (.setupWrite index words) s = .next (answer .badIndex [] s)) ∧
    (index.toNat + words.length ≤ 27 → s.quiet = false →
      exec (.setupWrite index words) s = .next (answer .wrongState [] s)) ∧
    (index.toNat + words.length ≤ 27 → s.quiet = true →
      ∃ t, exec (.setupWrite index words) s = .next t ∧
        t = { s with setup := t.setup, log := t.log, link := (answer .ok [] s).link } ∧
        (t.setup.logMode = s.setup.logMode → t.setup.logPolicy = s.setup.logPolicy → t.log = s.log) ∧
        ((t.setup.logMode ≠ s.setup.logMode ∨ t.setup.logPolicy ≠ s.setup.logPolicy) →
          t.log = { s.log with ring0 := { records := [], oldest := 0, next := 0 }
                               ring1 := { records := [], oldest := 0, next := 0 } }))

/-- R171: what a SETUP word reads back as after an accepted SETUP_WRITE: an untouched word as before, a touched word
clamped to its field's range and rounded down to its multiple, a touched word of flags or of a set as written in its
used bits. A deadline that the frame touches is formed from the merged high and low words and clamped to
1–1,048,575; an untouched one stands. -/
def Obligations.SetupWordsReadBack : Prop :=
  (∀ (s t : State) (index : Word) (words : List Word) (i : Nat),
      s.setup.InRange → s.linkTakes = true → s.quiet = true → 1 ≤ words.length → words.length ≤ 256 →
      index.toNat + words.length ≤ 27 → i < 27 → ¬ (10 ≤ i ∧ i ≤ 15) → exec (.setupWrite index words) s = .next t →
      ((i < index.toNat ∨ index.toNat + words.length ≤ i) →
        areaWord 2 t i = areaWord 2 s i) ∧
      (∀ w, words[i - index.toNat]? = some w → index.toNat ≤ i →
        (∀ least most multiple, setupRange i = some (least, most, multiple) →
          (areaWord 2 t i).toNat = max least (min most w.toNat) / multiple * multiple) ∧
        (∀ m, setupMask i = some m → (areaWord 2 t i).toNat = w.toNat % m))) ∧
  (∀ (s t : State) (index : Word) (words : List Word) (i : Nat),
      s.setup.InRange → s.linkTakes = true → s.quiet = true → 1 ≤ words.length → words.length ≤ 256 →
      index.toNat + words.length ≤ 27 → (i = 10 ∨ i = 12 ∨ i = 14) → exec (.setupWrite index words) s = .next t →
      let word (k : Nat) : Nat :=
        if index.toNat ≤ k ∧ k < index.toNat + words.length then (words.getD (k - index.toNat) 0).toNat
        else (areaWord 2 s k).toNat
      let touched : Prop :=
        (index.toNat ≤ i ∧ i < index.toNat + words.length) ∨
          (index.toNat ≤ i + 1 ∧ i + 1 < index.toNat + words.length)
      (touched → (areaWord 2 t i).toNat * 65536 + (areaWord 2 t (i + 1)).toNat =
        max 1 (min 1048575 (word i * 65536 + word (i + 1)))) ∧
      (¬ touched → areaWord 2 t i = areaWord 2 s i ∧ areaWord 2 t (i + 1) = areaWord 2 s (i + 1)))

/-- R89, R90, R91: SITE_CFG_WRITE in a quiet state with no site WAITING: each enable word of the frame enables or
disables its site, each trim word sets its site's code, and no other site changes: an enable leaves an enabled site
that is not REJECTED as it is, a disable makes phase and reject fields absent, and a site that a disable makes OFF leaves
the search (R120). R89, R164: it is refused past word
63, and outside the quiet states it is refused whole when a word would enable a site whose flag is clear or would
change a trim code. -/
def Obligations.SiteCfgWriteActsOrRefuses : Prop :=
  (∀ (s : State) (index : Word) (words : List Word), s.linkTakes = true → s.quiet = true → s.round = none →
      (∀ i, (s.site i).state ≠ .waiting) → 1 ≤ words.length → index.toNat + words.length ≤ 64 →
      ∃ t, exec (.siteCfgWrite index words) s = .next t ∧
        t = { s with sites := t.sites, search := t.search, link := (answer .ok [] s).link } ∧
        let enable (i : SiteId) : Option Word :=
          if index.toNat ≤ 2 * i.val then words[2 * i.val - index.toNat]? else none
        let trim (i : SiteId) : Option Word :=
          if index.toNat ≤ 2 * i.val + 1 then words[2 * i.val + 1 - index.toNat]? else none
        let enabled (i : SiteId) : Prop := ∃ w, enable i = some w ∧ w.getLsbD 0 = true
        let disabled (i : SiteId) : Prop := ∃ w, enable i = some w ∧ w.getLsbD 0 = false
        (∀ i : SiteId,
          (enabled i → (t.site i).state = .active) ∧ (disabled i → (t.site i).state = .off) ∧
          (enable i = none → (t.site i).state = (s.site i).state) ∧
          ((disabled i ∧ (s.site i).state ≠ .off) →
            (t.site i).phase = none ∧ (t.site i).reject = none) ∧
          ((enabled i ∧ (s.site i).state = .rejected) →
            (t.site i).phase = (s.site i).phase ∧ (t.site i).reject = none) ∧
          (¬ (disabled i ∧ (s.site i).state ≠ .off) → ¬ (enabled i ∧ (s.site i).state = .rejected) →
            (t.site i).phase = (s.site i).phase ∧ (t.site i).reject = (s.site i).reject) ∧
          (t.site i).trim = (match trim i with
            | none => (s.site i).trim
            | some w => loByte w) ∧
          t.site i = { s.site i with
            state := (t.site i).state, phase := (t.site i).phase, reject := (t.site i).reject
            trim := (t.site i).trim }) ∧
        (s.search = none → t.search = none) ∧
        (∀ c, s.search = some c → ∃ d, t.search = some d ∧
          d = { c with members := d.members, trialSet := d.trialSet } ∧
          ∀ i, (d.members.has i = true ↔ c.members.has i = true ∧ ¬ (disabled i ∧ (s.site i).state ≠ .off)) ∧
            (d.trialSet.has i = true ↔ c.trialSet.has i = true ∧ ¬ (disabled i ∧ (s.site i).state ≠ .off)))) ∧
  (∀ (s : State) (index : Word) (words : List Word), s.linkTakes = true → 1 ≤ words.length → words.length ≤ 256 →
      (64 < index.toNat + words.length →
        exec (.siteCfgWrite index words) s = .next (answer .badIndex [] s)) ∧
      (∀ (i : SiteId) (w : Word), index.toNat + words.length ≤ 64 → s.quiet = false → index.toNat ≤ 2 * i.val →
        words[2 * i.val - index.toNat]? = some w → w.getLsbD 0 = true → (s.site i).state = .off →
        exec (.siteCfgWrite index words) s = .next (answer .wrongState [] s)) ∧
      (∀ (i : SiteId) (w : Word), index.toNat + words.length ≤ 64 → s.quiet = false → index.toNat ≤ 2 * i.val + 1 →
        words[2 * i.val + 1 - index.toNat]? = some w → loByte w ≠ (s.site i).trim →
        exec (.siteCfgWrite index words) s = .next (answer .wrongState [] s)))

/-- R57, R90, R118, R120: an enable word written clear makes a site OFF at once in every runner state, with no round in
flight or while another site of the round is WAITING; a WAITING site leaves the round with its timers stopped, its transaction discarded, nothing
queued and its tally gone; its stream is gone too, but for that of a PROGRAM whose bytes its port is taking (R35; log
entry 31); conditions, totals, first fail, trim code, result, run count and flag are kept; the site leaves the
search, but a result formed for it already is still to be handed to it. -/
def Obligations.DisableCutsSiteLoose : Prop :=
  ∀ (s : State) (i : SiteId) (w : Word), s.linkTakes = true → w.getLsbD 0 = false →
    (s.round = none ∨ s.othersWait i) → (s.site i).state ≠ .off →
    ∃ t, exec (.siteCfgWrite (toWord (2 * i.val)) [w]) s = .next t ∧
      t = { s with sites := t.sites, clocks := t.clocks, ports := t.ports, tallies := t.tallies,
                   streams := t.streams, search := t.search, link := (answer .ok [] s).link } ∧
      t.site i = { s.site i with state := .off, phase := none, reject := none } ∧
      (∀ j, j ≠ i → t.site j = s.site j ∧ t.clocks.get j = s.clocks.get j ∧ t.ports.get j = s.ports.get j ∧
        t.tallies.get j = s.tallies.get j ∧ t.streams.get j = s.streams.get j) ∧
      ((s.site i).state = .waiting →
        t.clocks.get i = { poll := none, deadline := none } ∧ t.tallies.get i = none ∧
        ((∃ p data live, (s.ports.get i).current = some { tx := .program p data, live := live }) →
          t.streams.get i = s.streams.get i) ∧
        ((∀ p data live, (s.ports.get i).current ≠ some { tx := .program p data, live := live }) →
          t.streams.get i = none) ∧
        (t.ports.get i).queued = none ∧
        (t.ports.get i).current = (s.ports.get i).current.map (fun x => { x with live := false })) ∧
      ((s.site i).state ≠ .waiting →
        t.clocks = s.clocks ∧ t.ports = s.ports ∧ t.tallies = s.tallies ∧ t.streams = s.streams) ∧
      t.search = s.search.map (fun c => { c with
        members := c.members.without i, trialSet := c.trialSet.without i
        results := c.results, outstanding := c.outstanding })

/-- R103: an accepted PRELOAD. The old entries stand at their places; the entries after them are PRELOADED, hold
exactly the words that were not held before, each once, in the order of the frame; nothing else changes. R102, R164,
R172: the refusals of PRELOAD in order; a refused frame changes no list. That a frame which reaches the detail part is
READ_ONLY before BAD_INDEX is the model's reading (log entry 23). -/
def Obligations.PreloadAppendsOrRefuses : Prop :=
  (∀ (s : State) (i : SiteId) (position : Fin 64) (words : List Word), s.linkTakes = true → s.quiet = true →
      1 ≤ words.length → position.val + words.length ≤ 64 → position.val = (s.list i).length →
      (∀ w ∈ words, w.toNat ≤ 4095) →
      ∃ (t : State) (added : List Nat), exec (.preload i position words) s = .next t ∧
        t = { s with lists := t.lists, link := (answer .ok [] s).link } ∧
        (∀ j, j ≠ i → t.list j = s.list j) ∧
        t.list i = s.list i ++ added.map (fun b => { block := b, found := none }) ∧
        added.Pairwise (fun b c => (words.map BitVec.toNat).idxOf b < (words.map BitVec.toNat).idxOf c) ∧
        (∀ b, b ∈ added ↔ (b ∈ words.map BitVec.toNat ∧ listHolds (s.list i) b = false))) ∧
  (∀ (s : State) (i : SiteId) (position : Fin 64) (words : List Word), s.linkTakes = true → 1 ≤ words.length →
      words.length ≤ 256 →
      (2080 < 64 * i.val + position.val + words.length →
        exec (.preload i position words) s = .next (answer .readOnly [] s)) ∧
      (64 * i.val + position.val + words.length ≤ 2080 → 64 < position.val + words.length →
        exec (.preload i position words) s = .next (answer .badIndex [] s)) ∧
      (position.val + words.length ≤ 64 → s.quiet = false →
        exec (.preload i position words) s = .next (answer .wrongState [] s)) ∧
      (position.val + words.length ≤ 64 → s.quiet = true → position.val ≠ (s.list i).length →
        exec (.preload i position words) s = .next (answer .badIndex [] s)) ∧
      (position.val + words.length ≤ 64 → s.quiet = true → position.val = (s.list i).length →
        (∃ w ∈ words, 4095 < w.toNat) → exec (.preload i position words) s = .next (answer .badRequest [] s)))

/-- R104, R164: TRUNCATION: its refusals in order, and each named list cut to its first v entries. -/
def Obligations.TruncationCutsLists : Prop :=
  ∀ (s : State) (i : SiteId) (words : List Word), s.linkTakes = true → 1 ≤ words.length → words.length ≤ 256 →
    (32 < i.val + words.length → exec (.truncation i words) s = .next (answer .readOnly [] s)) ∧
    (i.val + words.length ≤ 32 → s.quiet = false →
      exec (.truncation i words) s = .next (answer .wrongState [] s)) ∧
    (i.val + words.length ≤ 32 → s.quiet = true →
      (∃ (j : SiteId) (w : Word), i.val ≤ j.val ∧ words[j.val - i.val]? = some w ∧ (s.list j).length < w.toNat) →
      exec (.truncation i words) s = .next (answer .badRequest [] s)) ∧
    (i.val + words.length ≤ 32 → s.quiet = true →
      (∀ (j : SiteId) (w : Word), i.val ≤ j.val → words[j.val - i.val]? = some w → w.toNat ≤ (s.list j).length) →
      ∃ t, exec (.truncation i words) s = .next t ∧
        t = { s with lists := t.lists, link := (answer .ok [] s).link } ∧
        (∀ (j : SiteId) (w : Word), i.val ≤ j.val → words[j.val - i.val]? = some w →
          t.list j = (s.list j).take w.toNat) ∧
        (∀ j : SiteId, (j.val < i.val ∨ i.val + words.length ≤ j.val) → t.list j = s.list j))

/-- R1, R164, R165: WRITE to PLAN: refused past word 4095 and outside the quiet states; accepted, each word reads back
as written, every other word as before, and nothing else changes. -/
def Obligations.PlanWriteStoresWords : Prop :=
  ∀ (s : State) (index : Word) (words : List Word), s.linkTakes = true → 1 ≤ words.length → words.length ≤ 256 →
    (4096 < index.toNat + words.length → exec (.write 1 index words) s = .next (answer .badIndex [] s)) ∧
    (index.toNat + words.length ≤ 4096 → s.quiet = false →
      exec (.write 1 index words) s = .next (answer .wrongState [] s)) ∧
    (index.toNat + words.length ≤ 4096 → s.quiet = true →
      ∃ t, exec (.write 1 index words) s = .next t ∧
        t = { s with plan := t.plan, link := (answer .ok [] s).link } ∧
        ∀ (r : Fin 256) (k : Fin 16),
          (t.plan.get r).get k =
            if index.toNat ≤ 16 * r.val + k.val ∧ 16 * r.val + k.val < index.toNat + words.length
            then words.getD (16 * r.val + k.val - index.toNat) 0 else (s.plan.get r).get k)

/-- R155, R165, R172: WRITE of a whole filter record to FILTERS stores its eight fields and no other filter's; it is
refused outside the quiet states. -/
def Obligations.FilterWriteStoresFields : Prop :=
  ∀ (s : State) (f : Fin 4) (w0 w1 w2 w3 w4 w5 w6 w7 : Word), s.linkTakes = true →
    let command : Instr := .write 6 (toWord (8 * f.val)) [w0, w1, w2, w3, w4, w5, w6, w7]
    (s.quiet = false → exec command s = .next (answer .wrongState [] s)) ∧
    (s.quiet = true → ∃ t, exec command s = .next t ∧
      t = { s with filters := t.filters, link := (answer .ok [] s).link } ∧
      (∀ g, g ≠ f → t.filters.get g = s.filters.get g) ∧
      (t.filters.get f).enabled = w0.getLsbD 0 ∧
      (t.filters.get f).action.code = 2 * (w0.getLsbD 9).toNat + (w0.getLsbD 8).toNat ∧
      (∀ i : SiteId, (t.filters.get f).sites.has i =
        if i.val < 16 then w2.getLsbD i.val else w1.getLsbD (i.val - 16)) ∧
      (t.filters.get f).blockValue.toNat = w3.toNat % 4096 ∧ (t.filters.get f).blockMask.toNat = w4.toNat % 4096 ∧
      (t.filters.get f).pageValue.toNat = w5.toNat % 512 ∧ (t.filters.get f).pageMask.toNat = w6.toNat % 512 ∧
      (t.filters.get f).minTotal = w7.toNat)

/-- R164, R165, R172: WRITE by its area code: SETUP, SITE_CFG and the two parts of BADLIST act as their own commands;
SITE_RESULT, STATUS and the detail part are read-only; codes 0 and 8–15 name no area. -/
def Obligations.WriteGoesToItsArea : Prop :=
  ∀ (s : State) (index : Word) (words : List Word), s.linkTakes = true → 1 ≤ words.length → words.length ≤ 256 →
    exec (.write 2 index words) s = exec (.setupWrite index words) s ∧
    exec (.write 3 index words) s = exec (.siteCfgWrite index words) s ∧
    (∀ (i : SiteId) (j : Fin 64), index.toNat = 64 * i.val + j.val →
      exec (.write 5 index words) s = exec (.preload i j words) s) ∧
    (∀ i : SiteId, index.toNat = 2048 + i.val → exec (.write 5 index words) s = exec (.truncation i words) s) ∧
    (2080 ≤ index.toNat → index.toNat < 4128 → exec (.write 5 index words) s = .next (answer .readOnly [] s)) ∧
    (∀ area : BitVec 4, (area = 4 ∨ area = 7) → exec (.write area index words) s = .next (answer .readOnly [] s)) ∧
    (∀ area : BitVec 4, (area = 0 ∨ 8 ≤ area.toNat) →
      exec (.write area index words) s = .next (answer .badRequest [] s))

/-- R150, R167: DRAIN outside LOG_STALL hands back and removes the oldest min(count, 32, held) records of the ring it
names; a ring that does not exist is refused with BAD_INDEX. R12, R147: a DRAIN of ring 0 in UNIFIED that leaves 128
free slots takes a runner in LOG_STALL back to RUNNING where it stalled; one that leaves fewer leaves it in LOG_STALL.
R11: stalled at a boundary with a pending pause, it then pauses. R174: the layout of the records handed back. -/
def Obligations.DrainRemovesOldest : Prop :=
  (∀ (s : State) (ring : Word) (count : Nat), s.linkTakes = true → s.runner.state ≠ .logStall → 1 ≤ count →
      count ≤ 256 →
      ((1 < ring.toNat ∨ ring.toNat = 1 ∧ s.setup.logMode = .unified) →
        exec (.drain ring count) s = .next (answer .badIndex [] s)) ∧
      (ring.toNat = 0 →
        let m := min (min count 32) s.log.ring0.records.length
        let capacity := if s.setup.logMode = .unified then 2048 else 1024
        exec (.drain ring count) s = .next (answer .ok
          (toByte m :: wordsBytes ((s.log.ring0.records.take m).flatMap LogRecord.words))
          { s with log := { s.log with ring0 := { s.log.ring0 with
            records := s.log.ring0.records.drop m, oldest := (s.log.ring0.oldest + m) % capacity } } })) ∧
      (ring.toNat = 1 → s.setup.logMode = .split →
        let m := min (min count 32) s.log.ring1.records.length
        exec (.drain ring count) s = .next (answer .ok
          (toByte m :: wordsBytes ((s.log.ring1.records.take m).flatMap LogRecord.words))
          { s with log := { s.log with ring1 := { s.log.ring1 with
            records := s.log.ring1.records.drop m, oldest := (s.log.ring1.oldest + m) % 1024 } } }))) ∧
  (∀ (s : State) (count : Nat), s.linkTakes = true → s.runner.state = .logStall → s.setup.logMode = .unified →
      1 ≤ count → count ≤ 256 → s.log.ring0.records.length ≤ 2048 →
      let m := min (min count 32) s.log.ring0.records.length
      ∃ t, exec (.drain 0 count) s = .next t ∧
        t = answer .ok (toByte m :: wordsBytes ((s.log.ring0.records.take m).flatMap LogRecord.words))
          { s with runner := t.runner, log := { s.log with ring0 := { s.log.ring0 with
            records := s.log.ring0.records.drop m, oldest := (s.log.ring0.oldest + m) % 2048 } } } ∧
        (s.log.ring0.records.length - m ≤ 1920 →
          t.runner = { s.runner with state := .running } ∧
          (s.runner.point = .boundary → s.runner.pendingPause = true →
            (settle t).runner = { s.runner with state := .paused, pendingPause := false } ∧
            (settle t).hasCause .paused = true)) ∧
        (1920 < s.log.ring0.records.length - m → t.runner = s.runner)) ∧
  (∀ r : LogRecord, r.Shows)

/-- R128, R164: ENLIST: a value other than 0 and 1 is refused with BAD_REQUEST, then LOCKED, then WRONG_STATE outside
IDLE; yes makes the station ENLISTED with both mark lines pulled, no LEFT_OUT, and both set the lock. -/
def Obligations.EnlistOnceInIdle : Prop :=
  ∀ (s : State) (value : Word), s.linkTakes = true →
    (1 < value.toNat → exec (.enlist value) s = .next (answer .badRequest [] s)) ∧
    (value.toNat ≤ 1 → s.tie.lock = true → exec (.enlist value) s = .next (answer .locked [] s)) ∧
    (value.toNat ≤ 1 → s.tie.lock = false → s.runner.state ≠ .idle →
      exec (.enlist value) s = .next (answer .wrongState [] s)) ∧
    (value = 1 → s.tie.lock = false → s.runner.state = .idle →
      ∃ t, exec (.enlist value) s = .next t ∧
        t = answer .ok [] { s with
          tie := { s.tie with enlistment := .enlisted, lock := true, markE := true, markO := true } } ∧
        (ownDrive t).take 2 = [true, true] ∧ (ownDrive t)[4]? = some s.tie.ownPull.isSome) ∧
    (value = 0 → s.tie.lock = false → s.runner.state = .idle →
      ∃ t, exec (.enlist value) s = .next t ∧
        t = answer .ok [] { s with tie := { s.tie with enlistment := .leftOut, lock := true } } ∧
        ownDrive t = [false, false, false, false, false])

/-- R170: ACK clears every cause it names and leaves the others, and ATTN follows. R169: PROBE answers station,
enlistment with its lock, and learned period, and changes nothing but the response. R164: a frame whose kind names no
request is answered BAD_REQUEST and changes nothing else. -/
def Obligations.AckProbeAndUnknownFrame : Prop :=
  (∀ (s : State) (w : Word), s.linkTakes = true →
      ∃ t, exec (.ack w) s = .next t ∧
        t = { s with link := { (answer .ok [] s).link with causes := t.link.causes } } ∧
        (∀ k, k < 5 → t.link.causes.getLsbD k = (s.link.causes.getLsbD k && !w.getLsbD k)) ∧
        (t.attn = true ↔ ∃ k, k < 5 ∧ t.link.causes.getLsbD k = true ∧ s.setup.enables.getLsbD k = true)) ∧
  (∀ (s : State) (period : Nat), s.linkTakes = true → s.link.learned = some period → period ≤ 2084 →
      exec .probe s = .next (answer .ok
        [0, toByte s.tie.station.toNat, (if s.tie.lock then 1 else 0), toByte s.tie.enlistment.code,
         toByte (period / 256), toByte (period % 256)] s)) ∧
  (∀ s : State, s.linkTakes = true →
      ∃ t, exec .unknownRequestFrame s = .next t ∧ t = { s with link := t.link } ∧
        t.link = { s.link with frame := [], lineHigh := 0,
                               response := some { bytes := [1], cut := false, resetAfter := false } })

/-! ## The link's lines -/

/-- R160: the receiver in UNLOCKED: the four ways an eligible interval is taken, the lock at the third agreement, and
intervals passed over; LINE_IDLE_TIMEOUT, SETTLING_END and SETTLING_EDGE, each in its state and in the others; outside
UNLOCKED no interval is taken. That the agreement count stands at 3 after the lock is the model's choice (log entry 32),
and so is all that is said of the count lineHigh of the line's rest and of the end of a hold-off (log entry 28). -/
def Obligations.ReceiverLocksAndSettles : Prop :=
  (∀ (s : State) (ticks : Nat), s.link.receiver = .unlocked →
      ∃ t, exec (.eligibleInterval ticks) s = .next t ∧ t = { s with link := t.link } ∧
        t.link.response = s.link.response ∧ t.link.causes = s.link.causes ∧
        ((ticks < 6 ∨ 2084 < ticks) → t.link = { s.link with lineHigh := 0 }) ∧
        (6 ≤ ticks → ticks ≤ 2084 →
          (s.link.candidate = none →
            t.link = { s.link with candidate := some ticks, agreement := 1, lineHigh := 0 }) ∧
          (∀ c, s.link.candidate = some c →
            (ticks + 1 < c → t.link = { s.link with candidate := some ticks, agreement := 1, lineHigh := 0 }) ∧
            (c + 1 < ticks → t.link = { s.link with lineHigh := 0 }) ∧
            (c ≤ ticks + 1 → ticks ≤ c + 1 → s.link.agreement < 2 →
              t.link = { s.link with agreement := s.link.agreement + 1, lineHigh := 0 }) ∧
            (c ≤ ticks + 1 → ticks ≤ c + 1 → s.link.agreement = 2 →
              t.link = { s.link with receiver := .settling, learned := some c, agreement := 3, frame := []
                                     lineHigh := 0, holdOff := none })))) ∧
  (∀ (s : State) (ticks : Nat), s.link.receiver ≠ .unlocked → exec (.eligibleInterval ticks) s = .next s) ∧
  (∀ s : State,
      (s.link.receiver = .unlocked →
        exec .lineIdleTimeout s = .next { s with link := { s.link with candidate := none, agreement := 0 } }) ∧
      (s.link.receiver ≠ .unlocked → exec .lineIdleTimeout s = .next s) ∧
      (s.link.receiver = .settling →
        exec .settlingEnd s = .next { s with link := { s.link with receiver := .ready, lineHigh := 0, holdOff := none } } ∧
        exec .settlingEdge s = .next { s with link := { s.link with lineHigh := 0 } }) ∧
      (s.link.receiver ≠ .settling → exec .settlingEnd s = .next s ∧ exec .settlingEdge s = .next s))

/-- R161, R172: BREAK in SETTLING and READY; in UNLOCKED a long low is no break. R162, R163: FRAMING_ERROR in READY and
FRAME_GAP_TIMEOUT discard the frame in progress with no response, and after a FRAMING_ERROR no byte is taken until the
hold-off is over (that it is counted from 0 at the error, and that a break ends it, are the model's choice, log entry 28). R163, R168,
R172: RESPONSE_END ends the response, and after the status byte of RESET the causes are cleared and the frame dropped; the rate lock is kept. -/
def Obligations.BreaksErrorsAndResponseEnds : Prop :=
  (∀ s : State,
      (s.link.receiver ≠ .unlocked →
        ∃ t, exec .lineBreak s = .next t ∧ t = { s with link := t.link } ∧
          t.link = { s.link with receiver := .unlocked, learned := none, candidate := none, agreement := 0, frame := []
                                 response := t.link.response, lineHigh := 0, holdOff := none } ∧
          (s.link.response = none → t.link.response = none) ∧
          (∀ r, s.link.response = some r → t.link.response = some { r with cut := true })) ∧
      (s.link.receiver = .unlocked → exec .lineBreak s = .next s)) ∧
  (∀ s : State,
      (s.link.receiver = .ready →
        ∃ t, exec .framingError s = .next t ∧
          t = { s with link := { s.link with frame := [], lineHigh := 0, holdOff := some 0 } } ∧
          ∀ b, exec (.byteTaken b) t = .next t) ∧
      (s.link.receiver ≠ .ready → exec .framingError s = .next s) ∧
      exec .frameGapTimeout s = .next { s with link := { s.link with frame := [] } }) ∧
  (∀ (s : State) (r : Response), s.link.response = some r →
      (r.resetAfter = false →
        exec .responseEnd s = .next { s with link := { s.link with response := none, lineHigh := 0 } }) ∧
      (r.resetAfter = true →
        exec .responseEnd s =
          .next { s with link := { s.link with response := none, frame := [], causes := 0, lineHigh := 0 } }))

/-- R160, R162, R163: BYTE_TAKEN adds to the frame while it is not complete; outside READY, after a framing error and
during a response the byte is discarded. -/
def Obligations.BytesJoinTheFrame : Prop :=
  ∀ (s : State) (b : Byte),
    (s.linkTakes = false → exec (.byteTaken b) s = .next s) ∧
    (s.linkTakes = true → s.link.frame.length < 3 →
      exec (.byteTaken b) s =
        .next { s with link := { s.link with frame := s.link.frame ++ [b], lineHigh := 0 } })

/-- R163, R164, R165: the bytes of a WRITE frame, taken one by one, have the effect of the WRITE command. -/
def Obligations.WriteFrameBytesAreTheCommand : Prop :=
  ∀ (s : State) (area : BitVec 4) (index : Word) (words : List Word), s.linkTakes = true → s.link.frame = [] →
    1 ≤ words.length → words.length ≤ 256 →
    ∃ t, exec (.write area index words) s = .next t ∧
      execAll ((frameBytes 1 area.toNat index words.length words).map Instr.byteTaken) s = some t

/-- R163, R164, R167 to R170: the bytes of a DRAIN, CONTROL, ENLIST, ACK, PROBE or unknown frame, taken one by one,
have the effect of the command; the word index and the count byte of a CONTROL, an ENLIST, an ACK and a PROBE are not
used. -/
def Obligations.ShortFrameBytesAreTheCommand : Prop :=
  ∀ (s : State) (area : BitVec 4) (index w : Word) (n : Nat), s.linkTakes = true → s.link.frame = [] → 1 ≤ n →
    n ≤ 256 →
    let same (kind : Nat) (payload : List Word) (c : Instr) : Prop :=
      ∃ t, exec c s = .next t ∧
        execAll ((frameBytes kind area.toNat index n payload).map Instr.byteTaken) s = some t
    same 3 [] (.drain index n) ∧ same 4 [0] .start ∧ same 4 [1] .pause ∧ same 4 [2] .stepRun ∧
      same 4 [3] .resume ∧ same 4 [4] .abort ∧ same 4 [5] .stopAll ∧ same 4 [6] .clearResults ∧ same 4 [7] .reset ∧
      (8 ≤ w.toNat → same 4 [w] .unknownRequestFrame) ∧ same 5 [w] (.enlist w) ∧ same 6 [w] (.ack w) ∧
      same 7 [] .probe ∧ (∀ kind, (kind = 0 ∨ 8 ≤ kind ∧ kind < 16) → same kind [] .unknownRequestFrame)

/-- R164, R166: a READ, whose last byte is taken in READY: the words of the area from the index on, after the status
byte OK; nothing changes but the response and the model's own counter of free values (log entry 13). An area code
that names no area is refused with BAD_REQUEST, and words outside the area with BAD_INDEX. R172: the layout of the words
of every area but SETUP (the words of SETUP are said in SetupWordsReadBack); which end of its two fields STATUS word 22
begins at is the model's reading (log entry 40). -/
def Obligations.ReadReturnsTheWords : Prop :=
  (∀ (s : State) (area : BitVec 4) (index : Word) (n : Nat), s.linkTakes = true → 1 ≤ n → n ≤ 256 →
    s.link.frame = (frameBytes 2 area.toNat index n []).take 3 →
    (areaSize area.toNat = none → exec (.byteTaken (toByte (n - 1))) s = .next (answer .badRequest [] s)) ∧
    (∀ size, areaSize area.toNat = some size → size < index.toNat + n →
      exec (.byteTaken (toByte (n - 1))) s = .next (answer .badIndex [] s)) ∧
    (∀ size, areaSize area.toNat = some size → index.toNat + n ≤ size →
      exec (.byteTaken (toByte (n - 1))) s = .next { answer .ok
        (((List.range n).map fun d => areaWord area.toNat s (index.toNat + d)).flatMap
          fun w => [toByte (w.toNat / 256), toByte (w.toNat % 256)]) s with free := s.free + 1 })) ∧
  (∀ s : State, s.ShowsRunner ∧ s.ShowsRound ∧ s.ShowsSearch ∧ s.ShowsTie ∧ s.ShowsLog ∧ s.ShowsTables ∧
    ∀ i, s.ShowsSite i ∧ s.ShowsList i)

/-! ## The sites' parts in a round -/

/-- R35, R41, R44, R45, R47: the issue of a page round's transaction, a PROGRAM with its bytes or another, makes the port
idle, ends the stream that the port has taken, and starts the site's deadline and poll timers from 0; the expiry of a
poll timer at an idle port stops it and begins a STATUS transaction. -/
def Obligations.IssueAndPollTimers : Prop :=
  ∀ (s : State) (i : SiteId), s.busy = false →
    (∀ r p pre tx, s.round = some r → r.work = .page p pre → (s.site i).state = .waiting →
      (tx = .page p pre ∨ ∃ data, tx = .program p data) →
      s.ports.get i = { current := some { tx := tx, live := true }, queued := none } →
      exec (.issue i) s = .next { s with
        ports := s.ports.set i { current := none, queued := none }
        streams := s.streams.set i none
        clocks := s.clocks.set i {
          poll := some { limit := s.setup.pollInterval, elapsed := 0 }
          deadline := some {
            limit := match p.kind with
              | .erase => s.setup.eraseDeadline
              | .program => s.setup.programDeadline
              | .read => s.setup.readDeadline
            elapsed := 0 } } }) ∧
    (∀ x, (s.clocks.get i).poll = some x → (s.ports.get i).current = none →
      exec (.pollTimerExpiry i) s = .next { s with
        clocks := s.clocks.set i { poll := none, deadline := (s.clocks.get i).deadline }
        ports := s.ports.set i
          { current := some { tx := .status, live := true }, queued := (s.ports.get i).queued } })

/-- R55, R78: the issue of a SETPARAM transaction ends the site's part, while another site of the round is WAITING and
no stop waits to be taken; no condition, record or timer comes of it. R17, R18, R56: in HALTING the end of the last
WAITING site's part ends the round and the runner enters HALTED. -/
def Obligations.SetparamIssueEndsPart : Prop :=
  (∀ (s : State) (i : SiteId) (r : Round) (address value : Byte) (values : PerSite (Option Byte)),
      s.round = some r → r.work = .setparam address values → (s.site i).state = .waiting →
      s.ports.get i = { current := some { tx := .setparam address value, live := true }, queued := none } →
      s.othersWait i → s.stopSettled = true → s.busy = false →
      exec (.issue i) s = .next { s with
        ports := s.ports.set i { current := none, queued := none }
        streams := s.streams.set i none
        sites := s.sites.set i { s.site i with state := .active, phase := none } }) ∧
  (∀ (s : State) (i : SiteId) (r : Round) (address value : Byte) (values : PerSite (Option Byte)) (cause : HaltCause),
      s.round = some r → r.work = .setparam address values → (s.site i).state = .waiting →
      s.ports.get i = { current := some { tx := .setparam address value, live := true }, queued := none } →
      (∀ j, j ≠ i → (s.site j).state ≠ .waiting) → s.stopSettled = true → s.runner.state = .halting →
      s.runner.haltCause = some cause →
      ∃ t, exec (.issue i) s = .next t ∧ t.round = none ∧
        t.runner = { s.runner with state := .halted, pendingPause := false, singleStep := false, point := .rest
                                   roundInFlight := false } ∧
        t.hasCause .halted = true ∧ t.tie.wait = none ∧ t.tie.heldVeto = none ∧ t.tie.vote = none ∧
        t.tie.markE = true ∧ t.tie.markO = true ∧ t.log.frozen = (s.log.frozen || s.setup.freeze) ∧
        t.site i = { s.site i with state := .active, phase := none } ∧ (∀ j, j ≠ i → t.site j = s.site j) ∧
        t = { s with runner := t.runner, round := none, sites := t.sites, ports := t.ports, streams := t.streams
                     tie := t.tie, log := t.log, link := t.link })

/-- R45, R46: a status byte at a site that awaits ready, short of the match count: the run count rises by 1 on a match
and is 0 otherwise, and the poll timer starts again; nothing else changes. -/
def Obligations.StatusReadsAreCounted : Prop :=
  ∀ (s : State) (i : SiteId) (r : Round) (status : Byte), s.round = some r → (s.site i).state = .waiting →
    (s.site i).phase = some .awaitReady →
    s.ports.get i = { current := some { tx := .status, live := true }, queued := none } → s.busy = false →
    let matched : Bool := match r.work with
      | .poll mask expected _ _ => (status &&& mask) == expected
      | _ => (status &&& s.setup.readyMask) == s.setup.readyValue
    let needed : Nat := match r.work with
      | .poll _ _ count _ => count
      | _ => s.setup.matchCount
    let count := if matched then (s.site i).runCount + 1 else 0
    count ≠ needed →
    exec (.statusResult i status) s = .next { s with
      sites := s.sites.set i { s.site i with runCount := count }
      ports := s.ports.set i { current := none, queued := none }
      clocks := s.clocks.set i
        { poll := some { limit := s.setup.pollInterval, elapsed := 0 }, deadline := (s.clocks.get i).deadline } }

/-- R46, R49, R50, R51, R62: the match that completes the run in a page round whose op-result check passes: the timers
stop; in an ERASE or PROGRAM round the site's part ends, in a READ round the data part begins with an empty tally
record of ceiling(P / C) codewords and, under RANDOM, the stream at s₀ (R35). R53: in a POLL round the site's part ends.
R17, R29, R31, R56: when the part of the last WAITING site of a sweep's round ends in RUNNING, the round ends: the
successor of its position is worked out, or the sweep completes and the step with it; a stop that comes next halts the
runner at once, and the runner's work otherwise goes on to the successor's round (R30, R42). -/
def Obligations.ReadySitesGoOn : Prop :=
  (∀ (s : State) (i : SiteId) (r : Round) (p : Position) (pre : Bool) (status : Byte),
    s.round = some r → r.work = .page p pre → r.trial = false → (s.site i).state = .waiting →
    (s.site i).phase = some .awaitReady →
    s.ports.get i = { current := some { tx := .status, live := true }, queued := none } →
    (status &&& s.setup.readyMask) = s.setup.readyValue → (s.site i).runCount + 1 = s.setup.matchCount →
    (status &&& s.setup.failMask) = 0 → s.othersWait i → s.stopSettled = true → s.busy = false →
    (p.kind ≠ .read → exec (.statusResult i status) s = .next { s with
      sites := s.sites.set i { s.site i with runCount := s.setup.matchCount, state := .active, phase := none }
      ports := s.ports.set i { current := none, queued := none }
      clocks := s.clocks.set i { poll := none, deadline := none } }) ∧
    (p.kind = .read → ∃ t, exec (.statusResult i status) s = .next t ∧
      t = { s with sites := t.sites, ports := t.ports, clocks := t.clocks, tallies := t.tallies
                   streams := t.streams } ∧
      t.site i = { s.site i with runCount := s.setup.matchCount, phase := some .awaitData } ∧
      t.clocks.get i = { poll := none, deadline := none } ∧
      t.ports.get i = { current := some { tx := .readData p, live := true }, queued := none } ∧
      t.tallies.get i = some {
        block := p.block, page := p.page.getD 0, trialCode := none, taken := 0
        sums := List.replicate ((s.setup.pageBytes + s.setup.codewordBytes - 1) / s.setup.codewordBytes) 0 } ∧
      (∀ w page, s.sweep = some w → p.page = some page →
        t.streams.get i = if w.fields.pattern = .random then
          some (toWord (w.fields.seed + 257 * (p.block * s.setup.pagesPerBlock + page))) else none) ∧
      (∀ j, j ≠ i → t.site j = s.site j ∧ t.clocks.get j = s.clocks.get j ∧ t.ports.get j = s.ports.get j ∧
        t.tallies.get j = s.tallies.get j ∧ t.streams.get j = s.streams.get j))) ∧
  (∀ (s : State) (i : SiteId) (r : Round) (mask expected status : Byte) (count deadline : Nat),
    s.round = some r → r.work = .poll mask expected count deadline → (s.site i).state = .waiting →
    (s.site i).phase = some .awaitReady →
    s.ports.get i = { current := some { tx := .status, live := true }, queued := none } →
    (status &&& mask) = expected → (s.site i).runCount + 1 = count → s.othersWait i → s.stopSettled = true →
    s.busy = false →
    exec (.statusResult i status) s = .next { s with
      sites := s.sites.set i { s.site i with runCount := count, state := .active, phase := none }
      ports := s.ports.set i { current := none, queued := none }
      clocks := s.clocks.set i { poll := none, deadline := none } }) ∧
  (∀ (s : State) (i : SiteId) (r : Round) (p : Position) (pre : Bool) (status : Byte) (w : Sweep),
    s.round = some r → r.work = .page p pre → p.kind ≠ .read → (s.site i).state = .waiting →
    (s.site i).phase = some .awaitReady →
    s.ports.get i = { current := some { tx := .status, live := true }, queued := none } →
    (status &&& s.setup.readyMask) = s.setup.readyValue → (s.site i).runCount + 1 = s.setup.matchCount →
    (status &&& s.setup.failMask) = 0 → (∀ j, j ≠ i → (s.site j).state ≠ .waiting) → s.tie.stop = none →
    s.runner.state = .running → s.runner.point = .inRound .sweep → s.sweep = some w → w.position = some p →
    s.search = none →
    let ended : State := { s with
      sites := s.sites.set i { s.site i with runCount := s.setup.matchCount, state := .active, phase := none }
      ports := s.ports.set i { current := none, queued := none }
      clocks := s.clocks.set i { poll := none, deadline := none }
      round := none }
    ∃ t, exec (.statusResult i status) s = .next t ∧
      (∀ q, successorOf w.fields p = some q →
        t = { ended with
          sweep := some { w with successor := some q }
          runner := { s.runner with roundInFlight := false, point := .ask .sweep } } ∧
        (s.headroomShort = false → w.fields.visitListed = true →
          (settle t).sweep = some { w with position := some q, successor := none } ∧
          (∃ r', (settle t).round = some r' ∧ r'.work = .page q (w.fields.op == .erase && w.fields.invert) ∧
            r'.participants.has i = true) ∧
          ((settle t).site i).state = .waiting)) ∧
      (successorOf w.fields p = none → s.runner.stepIndex < 255 →
        t = { ended with
          sweep := none
          runner := { s.runner with
            roundInFlight := false, stepIndex := s.runner.stepIndex + 1, point := .boundary } }) ∧
      (s.runner.stepIndex < 255 → ∃ u, exec .stopFall t = .next u ∧ u.runner.state = .halted ∧ u.round = none ∧
        u.runner.haltCause = some (s.runner.haltCause.getD .peerStop) ∧ u.runner.stepIndex = t.runner.stepIndex))

/-- R49, R81, R97, R98, R99, R153: an operation failure of an ERASE or PROGRAM round outside trial mode. With no filter
enabled, the default action LOG and OP_FAIL in neither mask: OP_FAIL enters both sets; below the limit an unlisted block
is appended as FOUND and its BLOCK_BAD record comes before the page-fail record; a listed block leaves the list as it
was; at the limit an unlisted block is not listed and BAD_LIMIT is raised (R98, R100), which rejects the site when the
site-stop mask holds it. With the block listed: a condition in the mainframe-stop mask pulls STOP with cause
OWN_CONDITION, and the runner enters HALTING (R17, R83). A deciding filter's action (R85, R158): IGNORE drops the event;
REJECT_SITE and STOP_ALL act as LOG and then raise FILTER_STOP and reject the site, or pull STOP with cause
OWN_FILTER. -/
def Obligations.OpFailureIsHandled : Prop :=
  ∀ (s : State) (i : SiteId) (p : Position) (status : Byte), s.FailsNext i p status →
    let record (filter : Option Nat) : RecordBody := .pageFail
      { site := i, block := p.block, page := p.page, step := s.runner.stepIndex
        source := if p.kind = .erase then .eraseStatus else .programStatus
        outcome := .opFail, figures := none, status := some status, filter := filter, trialCode := none }
    let left (raised : CondSet) : Site := { s.site i with
      runCount := s.setup.matchCount, state := .active, phase := none
      current := (s.site i).current ||| raised, accrued := (s.site i).accrued ||| raised }
    let rejected (raised : CondSet) (cause : Condition) : Site := { left raised with
      state := .rejected, reject := some { cause := cause, step := s.runner.stepIndex } }
    let rejection (cause : Condition) : RecordBody := .siteRejected
      { site := i, cause := cause, step := s.runner.stepIndex, block := some p.block, page := p.page }
    let halting (own : OwnCause) (t : State) : Prop :=
      t.tie = { s.tie with ownPull := some own, stop := some own.toHalt, reported := true } ∧
        t.runner = { s.runner with state := .halting, haltCause := some own.toHalt }
    let listed : Prop := ∃ e ∈ s.list i, e.block = p.block
    ∃ t, exec (.statusResult i status) s = .next t ∧
      t = { s with sites := t.sites, ports := t.ports, clocks := t.clocks, lists := t.lists, log := t.log
                   tie := t.tie, runner := t.runner, link := { s.link with causes := t.link.causes } } ∧
      t.ports.get i = { current := none, queued := none } ∧ t.clocks.get i = { poll := none, deadline := none } ∧
      (∀ j, j ≠ i → t.site j = s.site j ∧ t.list j = s.list j ∧ t.ports.get j = s.ports.get j ∧
        t.clocks.get j = s.clocks.get j) ∧
      (s.logsByDefault → s.unmasked .opFail →
        (listed → t.site i = left 4 ∧ t.list i = s.list i ∧ t.log = (offer (record none) s).log ∧
          t.tie = s.tie ∧ t.runner = s.runner) ∧
        (¬ listed → (s.list i).length < s.setup.listLimit →
          t.site i = left 4 ∧ t.tie = s.tie ∧ t.runner = s.runner ∧
          t.list i = s.list i ++
            [{ block := p.block, found := some { cause := .opFail, step := s.runner.stepIndex } }] ∧
          t.log = (offer (record none) (offer (.blockBad
            { site := i, block := p.block, page := p.page, cause := .opFail, step := s.runner.stepIndex
              count := (s.list i).length + 1 }) s)).log) ∧
        (¬ listed → s.setup.listLimit ≤ (s.list i).length → s.setup.mainframeStop.has .badLimit = false →
          t.list i = s.list i ∧ t.tie = s.tie ∧ t.runner = s.runner ∧
          (s.setup.siteStop.has .badLimit = false →
            t.site i = left 20 ∧ t.log = (offer (record none) s).log) ∧
          (s.setup.siteStop.has .badLimit = true →
            t.site i = rejected 20 .badLimit ∧ t.log = (offer (rejection .badLimit) (offer (record none) s)).log))) ∧
      (s.logsByDefault → listed → s.runsFreely → s.setup.freeze = false →
        s.setup.mainframeStop.has .opFail = true →
        halting .ownCondition t ∧ t.list i = s.list i ∧
          (s.setup.siteStop.has .opFail = false → t.site i = left 4) ∧
          (s.setup.siteStop.has .opFail = true → t.site i = rejected 4 .opFail)) ∧
      ((s.setup.defaultLog = false ∧ decidingFilter s.filters i p.block p.page 0 = none ∨
          ∃ f, decidingFilter s.filters i p.block p.page 0 = some f ∧ (s.filters.get f).action = .ignore) →
        t.site i = left 0 ∧ t.lists = s.lists ∧ t.log = s.log ∧ t.link = s.link ∧ t.tie = s.tie ∧
          t.runner = s.runner) ∧
      (∀ f, decidingFilter s.filters i p.block p.page 0 = some f → listed → s.unmasked .opFail →
        t.list i = s.list i ∧
        ((s.filters.get f).action = .log →
          t.site i = left 4 ∧ t.log = (offer (record (some f.val)) s).log ∧ t.tie = s.tie ∧ t.runner = s.runner) ∧
        ((s.filters.get f).action = .rejectSite →
          t.site i = rejected 68 .filterStop ∧ t.tie = s.tie ∧ t.runner = s.runner ∧
          t.log = (offer (rejection .filterStop) (offer (record (some f.val)) s)).log) ∧
        ((s.filters.get f).action = .stopAll → s.runsFreely → s.setup.freeze = false →
          t.site i = left 68 ∧ halting .ownFilter t ∧ t.log = (offer (record (some f.val)) s).log))

/-- R48, R81, R82: the expiry of a deadline outside trial mode: the timers stop, the transaction is discarded and
nothing stays queued, READY_TIMEOUT enters both sets, and the site's part ends, ACTIVE where READY_TIMEOUT is not in
the site-stop mask, and else REJECTED with its SITE_REJECTED record. No list, total or other site changes. -/
def Obligations.DeadlineRaisesReadyTimeout : Prop :=
  ∀ (s : State) (i : SiteId) (r : Round) (x : Timer), s.round = some r → r.trial = false →
    (s.clocks.get i).deadline = some x → (s.site i).state = .waiting →
    s.setup.mainframeStop.has .readyTimeout = false → s.othersWait i → s.stopSettled = true → s.busy = false →
    let block : Option Nat := match r.work with
      | .page p _ => some p.block
      | _ => none
    let page : Option Nat := match r.work with
      | .page p _ => p.page
      | _ => none
    ∃ t, exec (.deadlineExpiry i) s = .next t ∧
      t = { s with sites := t.sites, ports := t.ports, clocks := t.clocks, log := t.log
                   link := { s.link with causes := t.link.causes } } ∧
      t.clocks.get i = { poll := none, deadline := none } ∧
      t.ports.get i =
        { current := (s.ports.get i).current.map (fun c => { c with live := false }), queued := none } ∧
      (∀ j, j ≠ i → t.site j = s.site j ∧ t.ports.get j = s.ports.get j ∧ t.clocks.get j = s.clocks.get j) ∧
      (s.setup.siteStop.has .readyTimeout = false → t.log = s.log ∧ t.link = s.link ∧
        t.site i = { s.site i with
          state := .active, phase := none, current := (s.site i).current ||| 8
          accrued := (s.site i).accrued ||| 8 }) ∧
      (s.setup.siteStop.has .readyTimeout = true →
        t.log = (offer (.siteRejected
          { site := i, cause := .readyTimeout, step := s.runner.stepIndex, block := block, page := page }) s).log ∧
        t.site i = { s.site i with
          state := .rejected, phase := none, current := (s.site i).current ||| 8
          accrued := (s.site i).accrued ||| 8
          reject := some { cause := .readyTimeout, step := s.runner.stepIndex } })

/-- R63, R65: a byte of the data part adds the number of cared bits that differ from the expected byte to the tally of
codeword taken / C and raises the bytes taken by 1; nothing else but the site's stream changes. -/
def Obligations.ReadByteIsTallied : Prop :=
  ∀ (s : State) (i : SiteId) (x : Tally) (w : Sweep) (p : Position) (read : Byte), s.tallies.get i = some x →
    s.sweep = some w → x.taken < s.setup.pageBytes →
    (s.ports.get i).current = some { tx := .readData p, live := true } →
    let next : Option Word := (s.streams.get i).map fun y => toWord (25173 * y.toNat + 13849)
    let expected : Byte := expectedByte w.fields s.setup.pagesPerBlock x.block x.page x.taken (next.getD 0)
    let n := ((List.range 8).filter fun k =>
      w.fields.careMask.getLsbD k && (read.getLsbD k != expected.getLsbD k)).length
    exec (.readByte i read) s = .next { s with
      tallies := s.tallies.set i (some { x with
        taken := x.taken + 1
        sums := x.sums.modify (x.taken / s.setup.codewordBytes) (fun sum => sum + n) })
      streams := s.streams.set i next }

/-- R51, R67, R70, R71, R72, R153: the end of a data part outside trial mode. With every tally 0 the outcome is CLEAN: the
part ends and nothing is raised or recorded. With no filter enabled, the default action LOG and the conditions in neither
mask: with a tally above 0 and none above θ it is DATA_FAIL: the condition, the totals, the first fail and a page-fail
record. With a tally above θ it is PAGE_FAIL: the same and a listing request (R97, R98): a listed block leaves the list as
it is, below the limit an unlisted one is appended with its BLOCK_BAD record before the page-fail record, and at the
limit BAD_LIMIT is raised (R100). With the default action IGNORE and no filter enabled a failing outcome leaves nothing
(R157, R158). -/
def Obligations.DataPartEndFormsOutcome : Prop :=
  ∀ (s : State) (i : SiteId) (p : Position) (page : Nat) (x : Tally), s.PageIsRead i p page x →
    let gone : State := { s with
      sites := s.sites.set i { s.site i with state := .active, phase := none }
      ports := s.ports.set i { current := none, queued := none }
      tallies := s.tallies.set i none
      streams := s.streams.set i none }
    let o := formOutcome s.setup.threshold x.sums
    let left (raised : CondSet) : Site := { s.site i with
      state := .active, phase := none
      current := (s.site i).current ||| raised, accrued := (s.site i).accrued ||| raised
      failBits := min ((s.site i).failBits + min x.sums.sum 65535) 4294967295
      failedPages := min ((s.site i).failedPages + 1) 65535
      worst := max (s.site i).worst o.worstTally
      firstFail := some ((s.site i).firstFail.getD { block := p.block, page := page }) }
    let record (outcome : Condition) : RecordBody := .pageFail
      { site := i, block := p.block, page := p.page, step := s.runner.stepIndex, source := .readData
        outcome := outcome, figures := some o, status := none, filter := none, trialCode := none }
    ((∀ n ∈ x.sums, n = 0) → exec (.dataPartEnd i) s = .next gone) ∧
    ((∀ f, (s.filters.get f).enabled = false) → s.setup.defaultLog = false →
      exec (.dataPartEnd i) s = .next gone) ∧
    (s.logsByDefault → (∃ n ∈ x.sums, 0 < n) → ∃ t, exec (.dataPartEnd i) s = .next t ∧
      ((∀ n ∈ x.sums, n ≤ s.setup.threshold) → s.unmasked .dataFail →
        t = { gone with sites := t.sites, log := t.log, link := { s.link with causes := t.link.causes } } ∧
        (∀ j, j ≠ i → t.site j = s.site j) ∧ o.kind = .dataFail ∧ t.site i = left 1 ∧
        t.log = (offer (record .dataFail) s).log) ∧
      ((∃ n ∈ x.sums, s.setup.threshold < n) → s.unmasked .pageFail → s.unmasked .badLimit →
        t = { gone with sites := t.sites, lists := t.lists, log := t.log
                        link := { s.link with causes := t.link.causes } } ∧
        (∀ j, j ≠ i → t.site j = s.site j ∧ t.list j = s.list j) ∧ o.kind = .pageFail ∧
        ((∃ e ∈ s.list i, e.block = p.block) →
          t.site i = left 2 ∧ t.list i = s.list i ∧ t.log = (offer (record .pageFail) s).log) ∧
        ((∀ e ∈ s.list i, e.block ≠ p.block) → (s.list i).length < s.setup.listLimit →
          t.site i = left 2 ∧
          t.list i = s.list i ++
            [{ block := p.block, found := some { cause := .pageFail, step := s.runner.stepIndex } }] ∧
          t.log = (offer (record .pageFail) (offer (.blockBad
            { site := i, block := p.block, page := p.page, cause := .pageFail, step := s.runner.stepIndex
              count := (s.list i).length + 1 }) s)).log) ∧
        ((∀ e ∈ s.list i, e.block ≠ p.block) → s.setup.listLimit ≤ (s.list i).length →
          t.site i = left 18 ∧ t.list i = s.list i ∧ t.log = (offer (record .pageFail) s).log)))

/-- R86, R153, R159: an outcome with the trial mark, not ignored by the default action, with no filter enabled and the
log-trials flag clear, sets the site's trial-failed flag when its condition is in the trial-fail set, and changes
nothing else of the site but its part's end; no list, log or stop changes. -/
def Obligations.TrialEventsOnlyFlag : Prop :=
  ∀ (s : State) (i : SiteId) (r : Round) (p : Position) (pre : Bool) (x : Tally) (c : Search),
    s.round = some r → r.work = .page p pre → r.trial = true → p.kind = .read → s.search = some c →
    c.fields.logTrials = false → (s.site i).state = .waiting → s.tallies.get i = some x →
    x.taken = s.setup.pageBytes →
    s.ports.get i = { current := some { tx := .readData p, live := true }, queued := none } →
    (∀ f, (s.filters.get f).enabled = false) → s.setup.defaultLog = true → s.othersWait i →
    s.stopSettled = true →
    let o := formOutcome s.setup.threshold x.sums
    let failed : Bool := match o.kind with
      | .clean => false
      | .dataFail => c.fields.failSet.has .dataFail
      | .pageFail => c.fields.failSet.has .pageFail
    exec (.dataPartEnd i) s = .next { s with
      sites := s.sites.set i { s.site i with
        state := .active, phase := none, trialFailed := (s.site i).trialFailed || failed }
      ports := s.ports.set i { current := none, queued := none }
      tallies := s.tallies.set i none
      streams := s.streams.set i none }

/-- R41: a discarded transaction ends: its port becomes idle or begins the transaction queued behind it, and nothing else
changes but, after a PROGRAM that no other PROGRAM follows, the stream that it has taken (R35), and in a POLL round whose
first status read begins so, the poll timer, which starts afresh while the deadline timer is not moved (R53). A port with
no discarded transaction is left as it is: the model's choice (log entry 5). -/
def Obligations.DiscardedTransactionEnds : Prop :=
  ∀ (s : State) (i : SiteId),
    (∀ tx, (s.ports.get i).current = some { tx := tx, live := false } →
      ∃ t, exec (.discardedTransactionEnd i) s = .next t ∧
        t = { s with ports := t.ports, streams := t.streams, clocks := t.clocks } ∧
        t.ports = s.ports.set i
          { current := (s.ports.get i).queued.map (fun q => { tx := q, live := true }), queued := none } ∧
        (∀ j, j ≠ i → t.streams.get j = s.streams.get j ∧ t.clocks.get j = s.clocks.get j) ∧
        ((∀ p data, tx ≠ .program p data) → t.streams.get i = s.streams.get i) ∧
        (∀ p data, (s.ports.get i).queued = some (.program p data) → t.streams.get i = s.streams.get i) ∧
        (∀ p data, tx = .program p data → (∀ q bytes, (s.ports.get i).queued ≠ some (.program q bytes)) →
          t.streams.get i = none) ∧
        ((s.inPollRound = false ∨ (s.ports.get i).queued ≠ some .status) → t.clocks.get i = s.clocks.get i) ∧
        (s.inPollRound = true → (s.ports.get i).queued = some .status →
          t.clocks.get i = { poll := some { limit := s.setup.pollInterval, elapsed := 0 }
                             deadline := (s.clocks.get i).deadline })) ∧
    ((∀ c, (s.ports.get i).current = some c → c.live = true) → exec (.discardedTransactionEnd i) s = .next s)

/-! ## The tie bus -/

/-- R16, R132: a START or RENDEZVOUS barrier passed at an enlisted station that waits at it: the veto is sampled, the held
veto released, the timer stopped, the wait ended, the barrier number raised, and the runner RUNNING at the boundary
before its step, or past the RENDEZVOUS step outside a search; with the mark-record flag set a MARK_PASSED record is
offered (R142), and nothing else changes. A stop that comes next halts the runner before any step or round begins, the
barrier counted as passed (R16, R138). A rise that finds no wait is no passing. -/
def Obligations.BarrierPassesOnRise : Prop :=
  ∀ (s : State) (peerVeto : Bool),
    (s.busy = false → s.tie.wait = none → exec (.barrierPass peerVeto) s = .next s) ∧
    (∀ w, s.tie.wait = some w → s.runner.state = .atMark → s.tie.enlistment = .enlisted →
      (w.kind = .start ∨ w.kind = .rendezvous ∧ s.search = none ∧ s.runner.stepIndex < 255) →
      let sampled : Verdict := if peerVeto = true ∨ s.tie.heldVeto = some w.line then .fail else .pass
      ∃ t, exec (.barrierPass peerVeto) s = .next t ∧
        t = { s with runner := t.runner, tie := t.tie, log := t.log
                     link := { s.link with causes := t.link.causes } } ∧
        t.runner = { s.runner with
          state := .running, point := .boundary
          stepIndex := if w.kind = .start then s.runner.stepIndex else s.runner.stepIndex + 1 } ∧
        t.tie = { s.tie with
          wait := none, timer := none, heldVeto := none, barrier := (s.tie.barrier + 1) % 65536
          sampledVeto := some sampled } ∧
        (s.setup.markRecord = false → t.log = s.log ∧ t.link = s.link) ∧
        (s.setup.markRecord = true → t.log = (offer (.markPassed
          { barrier := s.tie.barrier, kind := w.kind, step := s.runner.stepIndex
            label := if w.kind = .start then none
              else some (((stepAt s.plan s.runner.stepIndex).map PlanStep.label).getD 0)
            vote := none, sampled := sampled, waited := min (w.waited / 1000) 65535 }) s).log) ∧
        (s.tie.stop = none → s.runner.roundInFlight = false → ∃ u, exec .stopFall t = .next u ∧
          u.runner.state = .halted ∧ u.runner.stepIndex = t.runner.stepIndex ∧ u.tie.barrier = (s.tie.barrier + 1) % 65536))

/-- R113 to R116, R132, R142: the passing of a trial barrier by a station that waits at it, in trials 1 to W and the extra
one: the combined verdict is FAIL when another station or the station's own vote pulls the veto, the own FAIL becomes the
held veto, and the trial closes by it (`TrialCloses`). R16, R113, R131, R133: the close of a trial of MAINFRAME scope: the
vote is FAIL exactly when a site of the trial set has its flag set; an enlisted station waits with it at the next
barrier, and another passes that at once, the trial closing by its own vote. R109, R110: a trial begins with its first body
step: every current set and trial-failed flag is cleared, the trial set is the member set for trials 1 to W, the codes
are worked out from the values, and the code round is asked for. R112, R114, R115: the close of a trial of SITE scope: each
site of the trial set moves its own value by its own flag, one TRIAL_RESULT is offered for each, and before trial W, or
after it when some member's value is 2^W − 1, a further trial is at its boundary, the extra one with those members.
The model's choices here: that the records come in ascending order of the sites (log entry 9); that local vote and
combined verdict are absent again in a further trial (log entry 20); that the flag of EVERY site is cleared at a trial's
beginning, that of a site which has left the search included (log entry 41); that the trial codes of trial j, and in
MAINFRAME scope the station's, stand until trial j + 1 begins (log entry 42). -/
def Obligations.TrialBarrierMovesValue : Prop :=
  (∀ (s : State) (peerVeto : Bool) (w : Wait) (c : Search), s.tie.wait = some w → w.kind = .trial →
    s.runner.state = .atMark → s.tie.enlistment = .enlisted → s.search = some c → c.fields.scope = .mainframe →
    (c.members = 0 → c.step + c.fields.body < 255) →
    let combined : Verdict :=
      if peerVeto = true ∨ s.tie.vote = some .fail ∨ s.tie.heldVeto = some w.line then .fail else .pass
    let passed : State := if s.setup.markRecord = true then offer (.markPassed
      { barrier := s.tie.barrier, kind := .trial, step := s.runner.stepIndex, label := none, vote := s.tie.vote
        sampled := combined, waited := min (w.waited / 1000) 65535 }) s else s
    ∃ t, exec (.barrierPass peerVeto) s = .next t ∧
      t = { s with runner := t.runner, tie := t.tie, search := t.search, log := t.log
                   link := { s.link with causes := t.link.causes } } ∧
      t.tie = { s.tie with
        wait := none, timer := none, barrier := (s.tie.barrier + 1) % 65536, sampledVeto := some combined
        heldVeto := if s.tie.vote = some .fail then some w.line else none } ∧
      passed.TrialCloses t c combined) ∧
  (∀ (s : State) (c : Search), s.pending = [] → s.runner.state = .running → s.runner.point = .close →
    s.headroomShort = false → s.search = some c → c.fields.scope = .mainframe →
    ∃ (vote : Verdict) (t : State), step s = .next t ∧
      (vote = .fail ↔ ∃ i, c.trialSet.has i = true ∧ (s.site i).trialFailed = true) ∧
      let line : Parity := if s.tie.barrier % 2 = 0 then .even else .odd
      let arrived : Tie := { s.tie with
        wait := some { kind := .trial, line := line, waited := 0 }, vote := some vote
        markE := s.tie.barrier % 2 != 0, markO := s.tie.barrier % 2 == 0, timer := none }
      (s.tie.enlistment = .enlisted → t = { s with
        runner := { s.runner with state := .atMark, point := .mark }
        search := some { c with phase := .vote, localVote := some vote, combined := none }
        tie := { arrived with timer := if s.setup.rendezvousTimeout = 0 then none else some 0 } }) ∧
      (s.tie.enlistment ≠ .enlisted → (c.members = 0 → c.step + c.fields.body < 255) →
        let passed : State := if s.setup.markRecord = true then offer (.markPassed
          { barrier := s.tie.barrier, kind := .trial, step := s.runner.stepIndex, label := none, vote := some vote
            sampled := vote, waited := 0 }) s else s
        t = { s with runner := t.runner, tie := t.tie, search := t.search, log := t.log
                     link := { s.link with causes := t.link.causes } } ∧
        t.tie = { arrived with
          wait := none, barrier := (s.tie.barrier + 1) % 65536, sampledVeto := some vote
          heldVeto := if vote = .fail then some line else none } ∧
        passed.TrialCloses t { c with localVote := some vote } vote)) ∧
  (∀ (s : State) (c : Search) (label : Nat) (body : StepBody), s.pending = [] → s.runner.state = .running →
    s.runner.point = .begin → s.search = some c → c.phase = .body → s.runner.stepIndex = c.step + 1 →
    stepAt s.plan s.runner.stepIndex = some { note := false, label := label, body := body } →
    let set : SiteSet := if c.trial ≤ c.fields.bits then c.members else c.trialSet
    let value (r : Nat) : Nat := if c.trial ≤ c.fields.bits then r + 2 ^ (c.fields.bits - c.trial) - 1 else r
    let code (r : Nat) : Nat := match c.fields.polarity with
      | .ascending => value r
      | .descending => 2 ^ c.fields.bits - 1 - value r
    ∃ (t : State) (d : Search), step s = .next t ∧
      t = { s with sites := t.sites, search := some d, runner := { s.runner with point := .ask .trialCode } } ∧
      (∀ i, t.site i = { s.site i with current := 0, trialFailed := false }) ∧
      d = { c with trialSet := set, codes := d.codes, stationCode := d.stationCode } ∧
      (c.fields.scope = .mainframe → d.stationCode = some (code c.stationValue) ∧ d.codes = c.codes) ∧
      (c.fields.scope = .site → d.stationCode = c.stationCode ∧
        ∀ i, d.codes.get i = if set.has i = true then some (code (c.values.get i)) else c.codes.get i)) ∧
  (∀ (s : State) (c : Search), s.pending = [] → s.runner.state = .running → s.runner.point = .close →
    s.headroomShort = false → s.search = some c → c.fields.scope = .site → 1 ≤ c.trial →
    let value (i : SiteId) : Nat := if c.trialSet.has i = true ∧ (s.site i).trialFailed = true ∧
        c.trial ≤ c.fields.bits then
      c.values.get i + 2 ^ (c.fields.bits - c.trial) else c.values.get i
    let undecided (i : SiteId) : Prop := c.members.has i = true ∧ value i = 2 ^ c.fields.bits - 1
    (c.trial < c.fields.bits ∨ c.trial = c.fields.bits ∧ ∃ i, undecided i) →
    ∃ (t : State) (d : Search), step s = .next t ∧
      t = { s with search := some d, log := t.log, link := { s.link with causes := t.link.causes }
                   runner := { s.runner with stepIndex := c.step + 1, point := .boundary } } ∧
      d.trial = c.trial + 1 ∧ d.phase = .body ∧ d.members = c.members ∧ d.codes = c.codes ∧
      (∀ i, d.values.get i = value i) ∧
      (c.trial < c.fields.bits → d.trialSet = c.trialSet) ∧
      (c.trial = c.fields.bits → ∀ i, d.trialSet.has i = true ↔ undecided i) ∧
      t.log = (((List.finRange 32).filter fun i => c.trialSet.has i).foldl (fun u i => offer (.trialResult
        { step := c.step, site := some i, trial := c.trial, code := (c.codes.get i).getD 0
          verdict := if (s.site i).trialFailed then .fail else .pass, localVote := none, barrier := none }) u) s).log)

/-- R16, R18, R129, R134, R136, R137, R138: the expiry of the running rendezvous timer with no stop in force: the own
pull and the stop have cause OWN_TIMEOUT, and the runner enters HALTED at the mark, the barrier not passed. A timer
that does not run does not expire. -/
def Obligations.RendezvousTimeoutHaltsAtMark : Prop :=
  ∀ s : State,
    (s.busy = false → s.tie.timer = none → exec .rendezvousTimeout s = .next s) ∧
    (∀ n, s.tie.timer = some n → s.runner.state = .atMark → s.tie.ownPull = none → s.tie.stop = none →
      ∃ t, exec .rendezvousTimeout s = .next t ∧
        t = { s with runner := t.runner, tie := t.tie, log := t.log
                     link := { s.link with causes := t.link.causes } } ∧
        t.runner.state = .halted ∧ t.runner.haltCause = some (s.runner.haltCause.getD .ownTimeout) ∧
        t.runner.stepIndex = s.runner.stepIndex ∧ t.runner.pendingPause = false ∧ t.runner.singleStep = false ∧
        t.hasCause .halted = true ∧
        t.tie = { s.tie with
          ownPull := some .ownTimeout, stop := some .ownTimeout, reported := true, wait := none, timer := none
          vote := none, heldVeto := none, markE := true, markO := true } ∧
        t.log.frozen = (s.log.frozen || s.setup.freeze))

/-- R17, R18, R121, R137: STOP_FALL with a stop in force records the level only; with none it begins a stop with cause
PEER_STOP, which IDLE, DONE, HALTING and HALTED only hold, which sends RUNNING with a round in flight into HALTING, and
which takes RUNNING with no round in flight, AT_MARK, PAUSED and LOG_STALL into HALTED, with the quiet drive (R129), the
HALTED record and the cause HALTED, no barrier passed; while the results of a search are handed out the runner only holds
it, the first cause standing (R121). STOP_RISE ends the stop when the own pull is absent, and only the
level changes otherwise. -/
def Obligations.StopFollowsTheLine : Prop :=
  ∀ s : State,
    (s.tie.stop.isSome = true → exec .stopFall s = .next { s with tie := { s.tie with peerStop := true } }) ∧
    (s.tie.stop = none →
      let tie : Tie := { s.tie with peerStop := true, stop := some .peerStop, reported := true }
      ((s.runner.state = .idle ∨ s.runner.state = .done ∨ s.runner.state = .halting ∨ s.runner.state = .halted) →
        exec .stopFall s = .next { s with tie := tie }) ∧
      (s.runner.state = .running → s.runner.roundInFlight = true →
        exec .stopFall s = .next { s with
          tie := tie, runner := { s.runner with state := .halting, haltCause := some .peerStop }
          log := { s.log with frozen := s.log.frozen || s.setup.freeze } }) ∧
      (∀ held, s.runner.state = .running → s.runner.roundInFlight = false → s.runner.point = .handOut held →
        exec .stopFall s = .next { s with
          tie := tie, runner := { s.runner with point := .handOut (some (held.getD .peerStop)) } }) ∧
      ((s.runner.state = .running ∧ s.runner.roundInFlight = false ∧ (∀ held, s.runner.point ≠ .handOut held) ∨
          s.runner.state = .atMark ∨ s.runner.state = .paused ∨ s.runner.state = .logStall) →
        ∃ t, exec .stopFall s = .next t ∧
          t = { s with runner := t.runner, tie := t.tie, log := t.log
                       link := { s.link with causes := t.link.causes } } ∧
          t.runner = { s.runner with
            state := .halted, pendingPause := false, singleStep := false, point := .rest
            haltCause := some (s.runner.haltCause.getD .peerStop) } ∧
          t.tie = { tie with markE := true, markO := true, heldVeto := none, vote := none, wait := none
                             timer := none } ∧
          t.hasCause .halted = true ∧
          t.log = { (offer (.halted t.runner.haltCause s.runner.stepIndex s.tie.barrier) s).log with
            frozen := s.log.frozen || s.setup.freeze })) ∧
    (s.tie.ownPull = none →
      exec .stopRise s = .next { s with tie := { s.tie with peerStop := false, stop := none, reported := false } }) ∧
    (s.tie.ownPull.isSome = true → exec .stopRise s = .next { s with tie := { s.tie with peerStop := false } })

/-- R126, R127, R137, R141, R172: POWER_ON_RESET: the station number is the straps', nothing is driven, a stop is in
force only when another station pulls STOP, the receiver is UNLOCKED, and the block's other state is that of
State.reset (the values at which the spec states no reset value are the model's: log entries 13, 15, 25, 27, 28). -/
def Obligations.PowerOnResetClearsTheBlock : Prop :=
  ∀ (s : State) (straps : BitVec 4),
    ∃ t, exec (.powerOnReset straps) s = .next t ∧
      t = { State.reset with tie := t.tie, free := s.free, pending := s.pending } ∧
      t.tie.station = straps ∧ t.tie.enlistment = .notEnlisted ∧ t.tie.lock = false ∧ t.tie.barrier = 0 ∧
      t.tie.wait = none ∧ t.tie.vote = none ∧ t.tie.sampledVeto = none ∧ t.tie.heldVeto = none ∧
      t.tie.ownPull = none ∧ t.tie.timer = none ∧ t.tie.peerStop = s.tie.peerStop ∧
      t.tie.stop = (if s.tie.peerStop then some .peerStop else none) ∧
      ownDrive t = [false, false, false, false, false] ∧
      t.runner.state = .idle ∧ t.link.receiver = .unlocked ∧ t.link.learned = none ∧ t.link.causes = 0 ∧
      t.setup.watermark = 1536 ∧ t.setup.siteStop = 56 ∧ (∀ i, (t.site i).state = .off ∧ t.list i = [])

/-! ## Sweeps, tallies, filters and the search -/

/-- R26, R27, R28, R29: the rounds of a sweep. The pairs of a sweep other than ERASE, in its major order and its two
directions, hold every pair of the rectangle once: its first round is at the first of them; a PROGRAM or VERIFY round is
followed by the round at the next pair, and a PROGRAM_VERIFY pair has its PROGRAM round followed by a READ round at the
same pair and that by the PROGRAM round at the next pair; the last round has no successor. An ERASE sweep visits the
blocks of its range in its block order, one ERASE round each. -/
def Obligations.SweepVisitsEveryPairOnce : Prop :=
  ∀ f : SweepFields, f.firstBlock ≤ f.lastBlock → f.firstPage ≤ f.lastPage →
    let along (o : Direction) (first last : Nat) : List Nat := match o with
      | .up => List.range' first (last - first + 1)
      | .down => (List.range' first (last - first + 1)).reverse
    let blocks := along f.blockOrder f.firstBlock f.lastBlock
    let pages := along f.pageOrder f.firstPage f.lastPage
    let pairs : List (Nat × Nat) := match f.major with
      | .blockMajor => blocks.flatMap fun b => pages.map fun p => (b, p)
      | .pageMajor => pages.flatMap fun p => blocks.map fun b => (b, p)
    let at_ (kind : PageKind) (q : Nat × Nat) : Position := { kind := kind, block := q.1, page := some q.2 }
    let erase (b : Nat) : Position := { kind := .erase, block := b, page := none }
    let first : PageKind := if f.op = .verify then .read else .program
    let last : PageKind := if f.op = .program then .program else .read
    pairs.Nodup ∧ pairs.length = (f.lastBlock - f.firstBlock + 1) * (f.lastPage - f.firstPage + 1) ∧
    (∀ b p, (b, p) ∈ pairs ↔
      f.firstBlock ≤ b ∧ b ≤ f.lastBlock ∧ f.firstPage ≤ p ∧ p ≤ f.lastPage) ∧
    (f.op ≠ .erase →
      (∀ q, pairs.head? = some q → firstPosition f = at_ first q) ∧
      (f.op = .programVerify → ∀ q, successorOf f (at_ .program q) = some (at_ .read q)) ∧
      (∀ (k : Nat) (h : k + 1 < pairs.length),
        successorOf f (at_ last (pairs[k]'(by omega))) = some (at_ first pairs[k + 1])) ∧
      (∀ q, pairs.getLast? = some q → successorOf f (at_ last q) = none)) ∧
    (f.op = .erase →
      (∀ b, blocks.head? = some b → firstPosition f = erase b) ∧
      (∀ (k : Nat) (h : k + 1 < blocks.length),
        successorOf f (erase (blocks[k]'(by omega))) = some (erase blocks[k + 1])) ∧
      (∀ b, blocks.getLast? = some b → successorOf f (erase b) = none) ∧
      blocks.Nodup ∧ ∀ b, b ∈ blocks ↔ f.firstBlock ≤ b ∧ b ≤ f.lastBlock)

/-- R32 to R36: the stream of a page has its P bytes, and byte i under each pattern, with the invert flag, is as the
rules have it; under RANDOM the state after i + 1 steps of the generator gives it. -/
def Obligations.StreamBytesFollowThePattern : Prop :=
  ∀ (f : SweepFields) (g block page count i : Nat), i < count →
    (pageStream f g count block page).length = count ∧
    let linear := block * g + page
    let states : Nat → Word := fun n => Nat.iterate (fun x : Word => toWord (25173 * x.toNat + 13849)) n
      (toWord (f.seed + 257 * linear))
    let plain : Nat := match f.pattern with
      | .solid => f.background % 256
      | .checker => if (i + page) % 2 = 0 then f.background % 256 else (255 - f.background) % 256
      | .address => (i + linear + f.background) % 256
      | .random => (states (i + 1)).toNat / 256
    (pageStream f g count block page)[i]? =
      some (toByte (if f.invert then 255 - plain else plain))

/-- R66, R67, R68: the kind of a page outcome and its figures. -/
def Obligations.OutcomeFollowsTallies : Prop :=
  ∀ (threshold : Nat) (sums : List Nat), sums ≠ [] →
    let o := formOutcome threshold sums
    (o.kind = .clean ↔ ∀ n ∈ sums, n = 0) ∧
    (o.kind = .dataFail ↔ (∃ n ∈ sums, 0 < n) ∧ ∀ n ∈ sums, n ≤ threshold) ∧
    (o.kind = .pageFail ↔ ∃ n ∈ sums, threshold < n) ∧
    sums[o.worstIndex]? = some o.worstTally ∧ (∀ n ∈ sums, n ≤ o.worstTally) ∧
    (∀ (k : Nat) (h : k < sums.length), k < o.worstIndex → sums[k] < o.worstTally) ∧
    o.overCount = sums.countP (fun n => decide (threshold < n)) ∧ o.total = min sums.sum 65535 ∧
    o.count = sums.length

/-- R156, R157: the deciding filter of an event is the lowest-numbered one that matches it. -/
def Obligations.LowestMatchingFilterDecides : Prop :=
  ∀ (filters : Table 4 Filter) (i : SiteId) (block : Nat) (page : Option Nat) (total : Nat),
    let hits (f : Fin 4) : Prop :=
      let x := filters.get f
      x.enabled = true ∧ x.sites.has i = true ∧
        (∀ k, k < 12 → x.blockMask.getLsbD k = true → block.testBit k = x.blockValue.getLsbD k) ∧
        (match page with
         | some q => ∀ k, k < 9 → x.pageMask.getLsbD k = true → q.testBit k = x.pageValue.getLsbD k
         | none => x.pageMask = 0) ∧
        x.minTotal ≤ total
    (∀ f, decidingFilter filters i block page total = some f ↔ hits f ∧ ∀ g, g < f → ¬ hits g) ∧
    (decidingFilter filters i block page total = none ↔ ∀ f, ¬ hits f)

/-- R109, R114, R116: a search of W bits whose trials pass from search value b on, and fail below it, leaves r at b
after trial W, and at 2^W − 1 when b is above that. R116, R117: a result is absent when r is 2^W − 1 and the extra trial
failed, and else the code of r; the final trim is the code plus the margin, kept within 0 and 2^W − 1. R112, R114 to R116,
R118: the close of the last trial of a SITE-scope search forms the results of the members all at once, and hands none out
yet. R80, R82, R83, R88, R118, R120, R121: one piece of the handing out: the site takes its result and its final trim, or
keeps its trim code and raises SEARCH_OPEN, WHATEVER ITS STATE, so also when it has been disabled meanwhile (it is then OFF
and not rejected); its SEARCH_RESULT is offered; no other site changes; a mainframe stop that it brings is held. After the
last site's handling a held stop halts the runner, with no final trim round (R121); else that round is asked for when some
result is present, and the search completes when none is (R119). The whole handing out, with SEARCH_OPEN in neither mask
and no stop in force: each member with a present result has it, each member without one has SEARCH_OPEN, no other site
has changed, and the final trim round is asked for. That the sites are taken in ascending order, and that a step on an
empty queue is the handling of one site, are the model's choices (log entries 9 and 39). -/
def Obligations.SearchFindsTheBoundary : Prop :=
  (∀ bits b : Nat,
    (List.range bits).foldl
      (fun r j => valueAfter bits (j + 1) r (if b ≤ trialValue bits (j + 1) r then .pass else .fail)) 0 =
      min b (2 ^ bits - 1)) ∧
  (∀ (f : SearchFields) (code : Nat),
    ((finalTrim f code : Nat) : Int) = max 0 (min (code + f.margin) ((2 ^ f.bits - 1 : Nat) : Int))) ∧
  (∀ (c : Search) (i : SiteId) (s : State),
    let top : Nat := 2 ^ c.fields.bits - 1
    let value : Nat := if c.fields.scope = .site then c.values.get i else c.stationValue
    let failed : Prop := if c.fields.scope = .site then (s.site i).trialFailed = true else c.combined ≠ some .pass
    (value = top → failed → resultCode c i s = none) ∧
    (¬ (value = top ∧ failed) →
      resultCode c i s = some (if c.fields.polarity = .ascending then value else top - value))) ∧
  (∀ (s : State) (c : Search), s.pending = [] → s.runner.state = .running → s.runner.point = .close →
    s.headroomShort = false → s.search = some c → c.fields.scope = .site → c.members ≠ 0 →
    let top : Nat := 2 ^ c.fields.bits - 1
    let value (i : SiteId) : Nat := if c.trialSet.has i = true ∧ (s.site i).trialFailed = true ∧
        c.trial ≤ c.fields.bits then
      c.values.get i + 2 ^ (c.fields.bits - c.trial) else c.values.get i
    let code (i : SiteId) : Option Nat :=
      if value i = top ∧ (s.site i).trialFailed = true then none
      else some (if c.fields.polarity = .ascending then value i else top - value i)
    (c.trial = c.fields.bits ∧ (∀ i, c.members.has i = true → value i ≠ top) ∨ c.trial = c.fields.bits + 1) →
    (∃ t, step s = .next t ∧
      t = { s with
        log := t.log, link := { s.link with causes := t.link.causes }
        runner := { s.runner with point := .handOut none }
        search := some { c with
          phase := .final, values := Table.ofFn value, outstanding := c.members
          results := Table.ofFn fun i => if c.members.has i then code i else none } } ∧
      t.log = (((List.finRange 32).filter fun i => c.trialSet.has i).foldl (fun u i => offer (.trialResult
        { step := c.step, site := some i, trial := c.trial, code := (c.codes.get i).getD 0
          verdict := if (s.site i).trialFailed then .fail else .pass, localVote := none, barrier := none }) u)
        s).log) ∧
    (s.tie.stop = none → s.unmasked .searchOpen → (∃ i, c.members.has i = true ∧ (code i).isSome = true) →
      let t : State := Nat.iterate advance (1 + ((List.finRange 32).filter fun i => c.members.has i).length) s
      t = { s with
        sites := t.sites, log := t.log, link := { s.link with causes := t.link.causes }
        runner := { s.runner with point := .ask .finalTrim }
        search := some { c with
          phase := .final, values := Table.ofFn value, outstanding := 0
          results := Table.ofFn fun i => if c.members.has i then code i else none } } ∧
      (∀ i, c.members.has i = false → t.site i = s.site i) ∧
      (∀ i, c.members.has i = true → code i = none → t.site i = { s.site i with
        result := none, current := (s.site i).current ||| 32, accrued := (s.site i).accrued ||| 32 }) ∧
      (∀ i k, c.members.has i = true → code i = some k → t.site i = { s.site i with
        result := some (toByte k), trim := toByte (finalTrim c.fields k) }) ∧
      (s.log.frozen = true → t.log = s.log) ∧
      t.log = (((List.finRange 32).filter fun i => c.members.has i).foldl (fun u i => offer (.searchResult
          { site := i, step := c.step, scope := .site, code := code i, trim := (code i).map (finalTrim c.fields)
            trials := if value i = top then c.fields.bits + 1 else c.fields.bits }) u)
        (((List.finRange 32).filter fun i => c.trialSet.has i).foldl (fun u i => offer (.trialResult
          { step := c.step, site := some i, trial := c.trial, code := (c.codes.get i).getD 0
            verdict := if (s.site i).trialFailed then .fail else .pass, localVote := none, barrier := none }) u)
          s)).log)) ∧
  (∀ (s : State) (c : Search) (held : Option HaltCause) (i : SiteId), s.pending = [] → s.runner.state = .running →
    s.runner.point = .handOut held → s.search = some c → c.outstanding.has i = true →
    (∀ j, c.outstanding.has j = true → i ≤ j) → s.stopSettled = true → s.runner.roundInFlight = false →
    let code : Option Nat := c.results.get i
    let value : Nat := if c.fields.scope = .site then c.values.get i else c.stationValue
    let recorded : State := offer (.searchResult
      { site := i, step := c.step, scope := c.fields.scope, code := code, trim := code.map (finalTrim c.fields)
        trials := if value = 2 ^ c.fields.bits - 1 then c.fields.bits + 1 else c.fields.bits }) s
    let rejects : Prop := s.setup.siteStop.has .searchOpen = true ∧
      ((s.site i).state = .active ∨ (s.site i).state = .waiting)
    let raised : Site := { s.site i with
      result := none, current := (s.site i).current ||| 32, accrued := (s.site i).accrued ||| 32 }
    let stops : Prop := code = none ∧ s.setup.mainframeStop.has .searchOpen = true
    let cause : Option HaltCause := held <|> (if s.setup.mainframeStop.has .searchOpen && code.isNone &&
      s.tie.ownPull.isNone && s.tie.stop.isNone then some .ownCondition else none)
    ∃ t, step s = .next t ∧
      t = { s with sites := t.sites, search := t.search, runner := t.runner, tie := t.tie, log := t.log
                   link := { s.link with causes := t.link.causes } } ∧
      (∀ j, j ≠ i → t.site j = s.site j) ∧
      (∀ k, code = some k → t.site i = { s.site i with
        result := some (toByte k), trim := toByte (finalTrim c.fields k) }) ∧
      (code = none → ¬ rejects → t.site i = raised) ∧
      (code = none → rejects → t.site i = { raised with
        state := .rejected, reject := some { cause := .searchOpen, step := s.runner.stepIndex } }) ∧
      (stops → t.tie.ownPull = some (s.tie.ownPull.getD .ownCondition) ∧
        t.tie.stop = (if s.tie.ownPull.isNone then some (s.tie.stop.getD .ownCondition) else s.tie.stop)) ∧
      (¬ stops → t.tie.ownPull = s.tie.ownPull ∧ t.tie.stop = s.tie.stop) ∧
      (∀ j, j ≠ i → c.outstanding.has j = true →
        t.search = some { c with outstanding := c.outstanding.without i } ∧
        t.runner = { s.runner with point := .handOut cause }) ∧
      ((cause = none ∧ c.step + c.fields.body < 255 ∨ ∃ j, j ≠ i ∧ c.outstanding.has j = true) →
        ((code.isSome = true ∨ ¬ rejects) → t.log = recorded.log) ∧
        (code = none → rejects → t.log = (offer (.siteRejected
          { site := i, cause := .searchOpen, step := s.runner.stepIndex, block := none, page := none }) recorded).log)) ∧
      ((∀ j, j ≠ i → c.outstanding.has j = false) →
        (∀ x, cause = some x → t.runner = { s.runner with
            state := .halted, pendingPause := false, singleStep := false, point := .rest
            haltCause := some (s.runner.haltCause.getD x) } ∧
          t.search = some { c with outstanding := 0 } ∧ t.hasCause .halted = true ∧
          t.log.frozen = (s.log.frozen || s.setup.freeze)) ∧
        (cause = none → (∃ j, (c.results.get j).isSome = true) →
          t.runner = { s.runner with point := .ask .finalTrim } ∧ t.search = some { c with outstanding := 0 }) ∧
        (cause = none → (∀ j, c.results.get j = none) → c.step + c.fields.body < 255 →
          t.runner = { s.runner with stepIndex := c.step + c.fields.body + 1, point := .boundary } ∧
          t.search = none)))
end

