-- ==== Sys2Proof/Laws/State.lean ====
section
/-! SUPPORT. One lemma per field for each named update of the state, true by definition. -/
namespace Sys2Proof.Machine

/-! ## modifySite -/

@[simp] theorem modifySite_runner (i : SiteId) (f : Site → Site) (s : State) : (modifySite i f s).runner = s.runner := rfl

@[simp] theorem modifySite_plan (i : SiteId) (f : Site → Site) (s : State) : (modifySite i f s).plan = s.plan := rfl

@[simp] theorem modifySite_setup (i : SiteId) (f : Site → Site) (s : State) : (modifySite i f s).setup = s.setup := rfl

@[simp] theorem modifySite_filters (i : SiteId) (f : Site → Site) (s : State) : (modifySite i f s).filters = s.filters := rfl

@[simp] theorem modifySite_sweep (i : SiteId) (f : Site → Site) (s : State) : (modifySite i f s).sweep = s.sweep := rfl

@[simp] theorem modifySite_streams (i : SiteId) (f : Site → Site) (s : State) : (modifySite i f s).streams = s.streams := rfl

@[simp] theorem modifySite_round (i : SiteId) (f : Site → Site) (s : State) : (modifySite i f s).round = s.round := rfl

@[simp] theorem modifySite_clocks (i : SiteId) (f : Site → Site) (s : State) : (modifySite i f s).clocks = s.clocks := rfl

@[simp] theorem modifySite_ports (i : SiteId) (f : Site → Site) (s : State) : (modifySite i f s).ports = s.ports := rfl

@[simp] theorem modifySite_tallies (i : SiteId) (f : Site → Site) (s : State) : (modifySite i f s).tallies = s.tallies := rfl

@[simp] theorem modifySite_sites (i : SiteId) (f : Site → Site) (s : State) :
    (modifySite i f s).sites = s.sites.modify i f := rfl

@[simp] theorem modifySite_lists (i : SiteId) (f : Site → Site) (s : State) : (modifySite i f s).lists = s.lists := rfl

@[simp] theorem modifySite_search (i : SiteId) (f : Site → Site) (s : State) : (modifySite i f s).search = s.search := rfl

@[simp] theorem modifySite_tie (i : SiteId) (f : Site → Site) (s : State) : (modifySite i f s).tie = s.tie := rfl

@[simp] theorem modifySite_log (i : SiteId) (f : Site → Site) (s : State) : (modifySite i f s).log = s.log := rfl

@[simp] theorem modifySite_link (i : SiteId) (f : Site → Site) (s : State) : (modifySite i f s).link = s.link := rfl

@[simp] theorem modifySite_free (i : SiteId) (f : Site → Site) (s : State) : (modifySite i f s).free = s.free := rfl

@[simp] theorem modifySite_pending (i : SiteId) (f : Site → Site) (s : State) : (modifySite i f s).pending = s.pending := rfl

/-! ## modifyLink -/

@[simp] theorem modifyLink_runner (f : Link → Link) (s : State) : (modifyLink f s).runner = s.runner := rfl

@[simp] theorem modifyLink_plan (f : Link → Link) (s : State) : (modifyLink f s).plan = s.plan := rfl

@[simp] theorem modifyLink_setup (f : Link → Link) (s : State) : (modifyLink f s).setup = s.setup := rfl

@[simp] theorem modifyLink_filters (f : Link → Link) (s : State) : (modifyLink f s).filters = s.filters := rfl

@[simp] theorem modifyLink_sweep (f : Link → Link) (s : State) : (modifyLink f s).sweep = s.sweep := rfl

@[simp] theorem modifyLink_streams (f : Link → Link) (s : State) : (modifyLink f s).streams = s.streams := rfl

@[simp] theorem modifyLink_round (f : Link → Link) (s : State) : (modifyLink f s).round = s.round := rfl

@[simp] theorem modifyLink_clocks (f : Link → Link) (s : State) : (modifyLink f s).clocks = s.clocks := rfl

@[simp] theorem modifyLink_ports (f : Link → Link) (s : State) : (modifyLink f s).ports = s.ports := rfl

@[simp] theorem modifyLink_tallies (f : Link → Link) (s : State) : (modifyLink f s).tallies = s.tallies := rfl

@[simp] theorem modifyLink_sites (f : Link → Link) (s : State) : (modifyLink f s).sites = s.sites := rfl

@[simp] theorem modifyLink_lists (f : Link → Link) (s : State) : (modifyLink f s).lists = s.lists := rfl

@[simp] theorem modifyLink_search (f : Link → Link) (s : State) : (modifyLink f s).search = s.search := rfl

@[simp] theorem modifyLink_tie (f : Link → Link) (s : State) : (modifyLink f s).tie = s.tie := rfl

@[simp] theorem modifyLink_log (f : Link → Link) (s : State) : (modifyLink f s).log = s.log := rfl

@[simp] theorem modifyLink_link (f : Link → Link) (s : State) : (modifyLink f s).link = f s.link := rfl

@[simp] theorem modifyLink_free (f : Link → Link) (s : State) : (modifyLink f s).free = s.free := rfl

@[simp] theorem modifyLink_pending (f : Link → Link) (s : State) : (modifyLink f s).pending = s.pending := rfl

/-! ## setPort -/

@[simp] theorem setPort_runner (i : SiteId) (p : Port) (s : State) : (setPort i p s).runner = s.runner := rfl

@[simp] theorem setPort_plan (i : SiteId) (p : Port) (s : State) : (setPort i p s).plan = s.plan := rfl

@[simp] theorem setPort_setup (i : SiteId) (p : Port) (s : State) : (setPort i p s).setup = s.setup := rfl

@[simp] theorem setPort_filters (i : SiteId) (p : Port) (s : State) : (setPort i p s).filters = s.filters := rfl

@[simp] theorem setPort_sweep (i : SiteId) (p : Port) (s : State) : (setPort i p s).sweep = s.sweep := rfl

@[simp] theorem setPort_streams (i : SiteId) (p : Port) (s : State) : (setPort i p s).streams = s.streams := rfl

@[simp] theorem setPort_round (i : SiteId) (p : Port) (s : State) : (setPort i p s).round = s.round := rfl

@[simp] theorem setPort_clocks (i : SiteId) (p : Port) (s : State) : (setPort i p s).clocks = s.clocks := rfl

@[simp] theorem setPort_ports (i : SiteId) (p : Port) (s : State) : (setPort i p s).ports = s.ports.set i p := rfl

@[simp] theorem setPort_tallies (i : SiteId) (p : Port) (s : State) : (setPort i p s).tallies = s.tallies := rfl

@[simp] theorem setPort_sites (i : SiteId) (p : Port) (s : State) : (setPort i p s).sites = s.sites := rfl

@[simp] theorem setPort_lists (i : SiteId) (p : Port) (s : State) : (setPort i p s).lists = s.lists := rfl

@[simp] theorem setPort_search (i : SiteId) (p : Port) (s : State) : (setPort i p s).search = s.search := rfl

@[simp] theorem setPort_tie (i : SiteId) (p : Port) (s : State) : (setPort i p s).tie = s.tie := rfl

@[simp] theorem setPort_log (i : SiteId) (p : Port) (s : State) : (setPort i p s).log = s.log := rfl

@[simp] theorem setPort_link (i : SiteId) (p : Port) (s : State) : (setPort i p s).link = s.link := rfl

@[simp] theorem setPort_free (i : SiteId) (p : Port) (s : State) : (setPort i p s).free = s.free := rfl

@[simp] theorem setPort_pending (i : SiteId) (p : Port) (s : State) : (setPort i p s).pending = s.pending := rfl

/-! ## setClocks -/

@[simp] theorem setClocks_runner (i : SiteId) (c : Clocks) (s : State) : (setClocks i c s).runner = s.runner := rfl

@[simp] theorem setClocks_plan (i : SiteId) (c : Clocks) (s : State) : (setClocks i c s).plan = s.plan := rfl

@[simp] theorem setClocks_setup (i : SiteId) (c : Clocks) (s : State) : (setClocks i c s).setup = s.setup := rfl

@[simp] theorem setClocks_filters (i : SiteId) (c : Clocks) (s : State) : (setClocks i c s).filters = s.filters := rfl

@[simp] theorem setClocks_sweep (i : SiteId) (c : Clocks) (s : State) : (setClocks i c s).sweep = s.sweep := rfl

@[simp] theorem setClocks_streams (i : SiteId) (c : Clocks) (s : State) : (setClocks i c s).streams = s.streams := rfl

@[simp] theorem setClocks_round (i : SiteId) (c : Clocks) (s : State) : (setClocks i c s).round = s.round := rfl

@[simp] theorem setClocks_clocks (i : SiteId) (c : Clocks) (s : State) : (setClocks i c s).clocks = s.clocks.set i c := rfl

@[simp] theorem setClocks_ports (i : SiteId) (c : Clocks) (s : State) : (setClocks i c s).ports = s.ports := rfl

@[simp] theorem setClocks_tallies (i : SiteId) (c : Clocks) (s : State) : (setClocks i c s).tallies = s.tallies := rfl

@[simp] theorem setClocks_sites (i : SiteId) (c : Clocks) (s : State) : (setClocks i c s).sites = s.sites := rfl

@[simp] theorem setClocks_lists (i : SiteId) (c : Clocks) (s : State) : (setClocks i c s).lists = s.lists := rfl

@[simp] theorem setClocks_search (i : SiteId) (c : Clocks) (s : State) : (setClocks i c s).search = s.search := rfl

@[simp] theorem setClocks_tie (i : SiteId) (c : Clocks) (s : State) : (setClocks i c s).tie = s.tie := rfl

@[simp] theorem setClocks_log (i : SiteId) (c : Clocks) (s : State) : (setClocks i c s).log = s.log := rfl

@[simp] theorem setClocks_link (i : SiteId) (c : Clocks) (s : State) : (setClocks i c s).link = s.link := rfl

@[simp] theorem setClocks_free (i : SiteId) (c : Clocks) (s : State) : (setClocks i c s).free = s.free := rfl

@[simp] theorem setClocks_pending (i : SiteId) (c : Clocks) (s : State) : (setClocks i c s).pending = s.pending := rfl

/-! ## setCause -/

@[simp] theorem setCause_runner (a : Attention) (s : State) : (setCause a s).runner = s.runner := rfl

@[simp] theorem setCause_plan (a : Attention) (s : State) : (setCause a s).plan = s.plan := rfl

@[simp] theorem setCause_setup (a : Attention) (s : State) : (setCause a s).setup = s.setup := rfl

@[simp] theorem setCause_filters (a : Attention) (s : State) : (setCause a s).filters = s.filters := rfl

@[simp] theorem setCause_sweep (a : Attention) (s : State) : (setCause a s).sweep = s.sweep := rfl

@[simp] theorem setCause_streams (a : Attention) (s : State) : (setCause a s).streams = s.streams := rfl

@[simp] theorem setCause_round (a : Attention) (s : State) : (setCause a s).round = s.round := rfl

@[simp] theorem setCause_clocks (a : Attention) (s : State) : (setCause a s).clocks = s.clocks := rfl

@[simp] theorem setCause_ports (a : Attention) (s : State) : (setCause a s).ports = s.ports := rfl

@[simp] theorem setCause_tallies (a : Attention) (s : State) : (setCause a s).tallies = s.tallies := rfl

@[simp] theorem setCause_sites (a : Attention) (s : State) : (setCause a s).sites = s.sites := rfl

@[simp] theorem setCause_lists (a : Attention) (s : State) : (setCause a s).lists = s.lists := rfl

@[simp] theorem setCause_search (a : Attention) (s : State) : (setCause a s).search = s.search := rfl

@[simp] theorem setCause_tie (a : Attention) (s : State) : (setCause a s).tie = s.tie := rfl

@[simp] theorem setCause_log (a : Attention) (s : State) : (setCause a s).log = s.log := rfl

@[simp] theorem setCause_link (a : Attention) (s : State) :
    (setCause a s).link = { s.link with causes := s.link.causes ||| BitVec.twoPow 5 a.bit } := rfl

@[simp] theorem setCause_free (a : Attention) (s : State) : (setCause a s).free = s.free := rfl

@[simp] theorem setCause_pending (a : Attention) (s : State) : (setCause a s).pending = s.pending := rfl

/-! ## clearCurrent -/

@[simp] theorem clearCurrent_runner (s : State) : (clearCurrent s).runner = s.runner := rfl

@[simp] theorem clearCurrent_plan (s : State) : (clearCurrent s).plan = s.plan := rfl

@[simp] theorem clearCurrent_setup (s : State) : (clearCurrent s).setup = s.setup := rfl

@[simp] theorem clearCurrent_filters (s : State) : (clearCurrent s).filters = s.filters := rfl

@[simp] theorem clearCurrent_sweep (s : State) : (clearCurrent s).sweep = s.sweep := rfl

@[simp] theorem clearCurrent_streams (s : State) : (clearCurrent s).streams = s.streams := rfl

@[simp] theorem clearCurrent_round (s : State) : (clearCurrent s).round = s.round := rfl

@[simp] theorem clearCurrent_clocks (s : State) : (clearCurrent s).clocks = s.clocks := rfl

@[simp] theorem clearCurrent_ports (s : State) : (clearCurrent s).ports = s.ports := rfl

@[simp] theorem clearCurrent_tallies (s : State) : (clearCurrent s).tallies = s.tallies := rfl

@[simp] theorem clearCurrent_sites (s : State) : (clearCurrent s).sites = s.sites.map fun x => { x with current := 0 } := rfl

@[simp] theorem clearCurrent_lists (s : State) : (clearCurrent s).lists = s.lists := rfl

@[simp] theorem clearCurrent_search (s : State) : (clearCurrent s).search = s.search := rfl

@[simp] theorem clearCurrent_tie (s : State) : (clearCurrent s).tie = s.tie := rfl

@[simp] theorem clearCurrent_log (s : State) : (clearCurrent s).log = s.log := rfl

@[simp] theorem clearCurrent_link (s : State) : (clearCurrent s).link = s.link := rfl

@[simp] theorem clearCurrent_free (s : State) : (clearCurrent s).free = s.free := rfl

@[simp] theorem clearCurrent_pending (s : State) : (clearCurrent s).pending = s.pending := rfl

/-! ## clearTrialFlags -/

@[simp] theorem clearTrialFlags_runner (s : State) : (clearTrialFlags s).runner = s.runner := rfl

@[simp] theorem clearTrialFlags_plan (s : State) : (clearTrialFlags s).plan = s.plan := rfl

@[simp] theorem clearTrialFlags_setup (s : State) : (clearTrialFlags s).setup = s.setup := rfl

@[simp] theorem clearTrialFlags_filters (s : State) : (clearTrialFlags s).filters = s.filters := rfl

@[simp] theorem clearTrialFlags_sweep (s : State) : (clearTrialFlags s).sweep = s.sweep := rfl

@[simp] theorem clearTrialFlags_streams (s : State) : (clearTrialFlags s).streams = s.streams := rfl

@[simp] theorem clearTrialFlags_round (s : State) : (clearTrialFlags s).round = s.round := rfl

@[simp] theorem clearTrialFlags_clocks (s : State) : (clearTrialFlags s).clocks = s.clocks := rfl

@[simp] theorem clearTrialFlags_ports (s : State) : (clearTrialFlags s).ports = s.ports := rfl

@[simp] theorem clearTrialFlags_tallies (s : State) : (clearTrialFlags s).tallies = s.tallies := rfl

@[simp] theorem clearTrialFlags_sites (s : State) :
    (clearTrialFlags s).sites = s.sites.map fun x => { x with trialFailed := false } := rfl

@[simp] theorem clearTrialFlags_lists (s : State) : (clearTrialFlags s).lists = s.lists := rfl

@[simp] theorem clearTrialFlags_search (s : State) : (clearTrialFlags s).search = s.search := rfl

@[simp] theorem clearTrialFlags_tie (s : State) : (clearTrialFlags s).tie = s.tie := rfl

@[simp] theorem clearTrialFlags_log (s : State) : (clearTrialFlags s).log = s.log := rfl

@[simp] theorem clearTrialFlags_link (s : State) : (clearTrialFlags s).link = s.link := rfl

@[simp] theorem clearTrialFlags_free (s : State) : (clearTrialFlags s).free = s.free := rfl

@[simp] theorem clearTrialFlags_pending (s : State) : (clearTrialFlags s).pending = s.pending := rfl

/-! ## emptyRings -/

@[simp] theorem emptyRings_runner (s : State) : (emptyRings s).runner = s.runner := rfl

@[simp] theorem emptyRings_plan (s : State) : (emptyRings s).plan = s.plan := rfl

@[simp] theorem emptyRings_setup (s : State) : (emptyRings s).setup = s.setup := rfl

@[simp] theorem emptyRings_filters (s : State) : (emptyRings s).filters = s.filters := rfl

@[simp] theorem emptyRings_sweep (s : State) : (emptyRings s).sweep = s.sweep := rfl

@[simp] theorem emptyRings_streams (s : State) : (emptyRings s).streams = s.streams := rfl

@[simp] theorem emptyRings_round (s : State) : (emptyRings s).round = s.round := rfl

@[simp] theorem emptyRings_clocks (s : State) : (emptyRings s).clocks = s.clocks := rfl

@[simp] theorem emptyRings_ports (s : State) : (emptyRings s).ports = s.ports := rfl

@[simp] theorem emptyRings_tallies (s : State) : (emptyRings s).tallies = s.tallies := rfl

@[simp] theorem emptyRings_sites (s : State) : (emptyRings s).sites = s.sites := rfl

@[simp] theorem emptyRings_lists (s : State) : (emptyRings s).lists = s.lists := rfl

@[simp] theorem emptyRings_search (s : State) : (emptyRings s).search = s.search := rfl

@[simp] theorem emptyRings_tie (s : State) : (emptyRings s).tie = s.tie := rfl

@[simp] theorem emptyRings_log (s : State) :
    (emptyRings s).log = { s.log with ring0 := Ring.empty, ring1 := Ring.empty } := rfl

@[simp] theorem emptyRings_link (s : State) : (emptyRings s).link = s.link := rfl

@[simp] theorem emptyRings_free (s : State) : (emptyRings s).free = s.free := rfl

@[simp] theorem emptyRings_pending (s : State) : (emptyRings s).pending = s.pending := rfl

/-! ## raise -/

@[simp] theorem raise_runner (c : Condition) (i : SiteId) (s : State) : (raise c i s).runner = s.runner := rfl

@[simp] theorem raise_plan (c : Condition) (i : SiteId) (s : State) : (raise c i s).plan = s.plan := rfl

@[simp] theorem raise_setup (c : Condition) (i : SiteId) (s : State) : (raise c i s).setup = s.setup := rfl

@[simp] theorem raise_filters (c : Condition) (i : SiteId) (s : State) : (raise c i s).filters = s.filters := rfl

@[simp] theorem raise_sweep (c : Condition) (i : SiteId) (s : State) : (raise c i s).sweep = s.sweep := rfl

@[simp] theorem raise_streams (c : Condition) (i : SiteId) (s : State) : (raise c i s).streams = s.streams := rfl

@[simp] theorem raise_round (c : Condition) (i : SiteId) (s : State) : (raise c i s).round = s.round := rfl

@[simp] theorem raise_clocks (c : Condition) (i : SiteId) (s : State) : (raise c i s).clocks = s.clocks := rfl

@[simp] theorem raise_ports (c : Condition) (i : SiteId) (s : State) : (raise c i s).ports = s.ports := rfl

@[simp] theorem raise_tallies (c : Condition) (i : SiteId) (s : State) : (raise c i s).tallies = s.tallies := rfl

@[simp] theorem raise_sites (c : Condition) (i : SiteId) (s : State) :
    (raise c i s).sites = s.sites.modify i fun x => { x with current := x.current.add c, accrued := x.accrued.add c } := rfl

@[simp] theorem raise_lists (c : Condition) (i : SiteId) (s : State) : (raise c i s).lists = s.lists := rfl

@[simp] theorem raise_search (c : Condition) (i : SiteId) (s : State) : (raise c i s).search = s.search := rfl

@[simp] theorem raise_tie (c : Condition) (i : SiteId) (s : State) : (raise c i s).tie = s.tie := rfl

@[simp] theorem raise_log (c : Condition) (i : SiteId) (s : State) : (raise c i s).log = s.log := rfl

@[simp] theorem raise_link (c : Condition) (i : SiteId) (s : State) : (raise c i s).link = s.link := rfl

@[simp] theorem raise_free (c : Condition) (i : SiteId) (s : State) : (raise c i s).free = s.free := rfl

@[simp] theorem raise_pending (c : Condition) (i : SiteId) (s : State) : (raise c i s).pending = s.pending := rfl

/-! ## answer -/

@[simp] theorem answer_runner (x : Status) (d : List Byte) (s : State) : (answer x d s).runner = s.runner := rfl

@[simp] theorem answer_plan (x : Status) (d : List Byte) (s : State) : (answer x d s).plan = s.plan := rfl

@[simp] theorem answer_setup (x : Status) (d : List Byte) (s : State) : (answer x d s).setup = s.setup := rfl

@[simp] theorem answer_filters (x : Status) (d : List Byte) (s : State) : (answer x d s).filters = s.filters := rfl

@[simp] theorem answer_sweep (x : Status) (d : List Byte) (s : State) : (answer x d s).sweep = s.sweep := rfl

@[simp] theorem answer_streams (x : Status) (d : List Byte) (s : State) : (answer x d s).streams = s.streams := rfl

@[simp] theorem answer_round (x : Status) (d : List Byte) (s : State) : (answer x d s).round = s.round := rfl

@[simp] theorem answer_clocks (x : Status) (d : List Byte) (s : State) : (answer x d s).clocks = s.clocks := rfl

@[simp] theorem answer_ports (x : Status) (d : List Byte) (s : State) : (answer x d s).ports = s.ports := rfl

@[simp] theorem answer_tallies (x : Status) (d : List Byte) (s : State) : (answer x d s).tallies = s.tallies := rfl

@[simp] theorem answer_sites (x : Status) (d : List Byte) (s : State) : (answer x d s).sites = s.sites := rfl

@[simp] theorem answer_lists (x : Status) (d : List Byte) (s : State) : (answer x d s).lists = s.lists := rfl

@[simp] theorem answer_search (x : Status) (d : List Byte) (s : State) : (answer x d s).search = s.search := rfl

@[simp] theorem answer_tie (x : Status) (d : List Byte) (s : State) : (answer x d s).tie = s.tie := rfl

@[simp] theorem answer_log (x : Status) (d : List Byte) (s : State) : (answer x d s).log = s.log := rfl

@[simp] theorem answer_link (x : Status) (d : List Byte) (s : State) :
    (answer x d s).link = { s.link with
      frame := [], response := some { bytes := x.code :: d, cut := false, resetAfter := false }, lineHigh := 0 } := rfl

@[simp] theorem answer_free (x : Status) (d : List Byte) (s : State) : (answer x d s).free = s.free := rfl

@[simp] theorem answer_pending (x : Status) (d : List Byte) (s : State) : (answer x d s).pending = s.pending := rfl

end Sys2Proof.Machine
end

