-- ==== Sys2Proof/Laws/Tables.lean ====
section
/-! SUPPORT. What the operations over tables and sets of sites do. -/
namespace Sys2Proof

/-- Two tables with the same entries are the same. -/
theorem Table.ext_get {n : Nat} {α : Type} {t u : Table n α} (h : ∀ i, t.get i = u.get i) : t = u := by
  obtain ⟨xs, hx⟩ := t
  obtain ⟨ys, hy⟩ := u
  congr 1
  refine List.ext_getElem (hx.trans hy.symm) fun i h1 _ => ?_
  exact h ⟨i, hx ▸ h1⟩

/-- Reading after writing one entry. -/
theorem Table.get_set {n : Nat} {α : Type} (t : Table n α) (i j : Fin n) (a : α) :
    (t.set i a).get j = if i = j then a else t.get j := by
  simp only [Table.get, Table.set, List.getElem_set]
  by_cases h : i = j
  · subst h; simp
  · have : i.val ≠ j.val := fun e => h (Fin.ext e)
    simp [h, this]

@[simp] theorem Table.get_set_self {n : Nat} {α : Type} (t : Table n α) (i : Fin n) (a : α) :
    (t.set i a).get i = a := by simp [Table.get_set]

theorem Table.get_set_ne {n : Nat} {α : Type} (t : Table n α) {i j : Fin n} (a : α) (h : i ≠ j) :
    (t.set i a).get j = t.get j := by simp [Table.get_set, h]

/-- Reading after changing one entry. -/
theorem Table.get_modify {n : Nat} {α : Type} (t : Table n α) (i j : Fin n) (f : α → α) :
    (t.modify i f).get j = if i = j then f (t.get j) else t.get j := by
  rw [Table.modify, Table.get_set]
  by_cases h : i = j
  · subst h; simp
  · simp [h]

@[simp] theorem Table.get_map {n : Nat} {α β : Type} (t : Table n α) (f : α → β) (i : Fin n) :
    (t.map f).get i = f (t.get i) := by simp [Table.get, Table.map]

@[simp] theorem Table.get_ofFn {n : Nat} {α : Type} (f : Fin n → α) (i : Fin n) : (Table.ofFn f).get i = f i := by
  simp [Table.get, Table.ofFn]

@[simp] theorem Table.get_replicate {n : Nat} {α : Type} (a : α) (i : Fin n) : (Table.replicate n a).get i = a := by
  simp [Table.get, Table.replicate]

/-- Writing the entry that is there changes nothing. -/
@[simp] theorem Table.set_get_self {n : Nat} {α : Type} (t : Table n α) (i : Fin n) : t.set i (t.get i) = t := by
  refine Table.ext_get fun j => ?_
  rw [Table.get_set]
  split
  · next h => rw [h]
  · rfl

/-- A later write to an entry hides an earlier one. -/
@[simp] theorem Table.set_set {n : Nat} {α : Type} (t : Table n α) (i : Fin n) (a b : α) :
    (t.set i a).set i b = t.set i b := by
  refine Table.ext_get fun j => ?_
  simp only [Table.get_set]
  split <;> rfl

@[simp] theorem SiteSet.has_ofPred (p : SiteId → Bool) (i : SiteId) : (SiteSet.ofPred p).has i = p i := by
  simp [SiteSet.ofPred, SiteSet.has]

/-- The members of a set after a site has left it. -/
theorem SiteSet.has_without (x : SiteSet) (i j : SiteId) : (x.without i).has j = (x.has j && decide (j ≠ i)) := by
  by_cases h : j = i
  · subst h; simp [SiteSet.has, SiteSet.without]
  · have hv : ¬ j.val = i.val := fun e => h (Fin.ext e)
    simp [SiteSet.has, SiteSet.without, h, hv]

@[simp] theorem mem_allSites (i : SiteId) : i ∈ allSites := List.mem_finRange i

end Sys2Proof
end

