-- ==== Sys2Proof/Laws/Log.lean ====
section
/-! SUPPORT. What offering a record, the freeze notice, an own-pull request and the Site Table's operations do and
leave alone. -/
namespace Sys2Proof.Machine

/-! ## The Result Log -/

/-- All that offering a record can do: nothing while frozen; else one ring takes the record, and LOG_LEVEL may be
set (R144 to R151). -/
theorem offer_cases (b : RecordBody) (s : State) :
    (s.log.frozen = true ∧ offer b s = s) ∨
    (s.log.frozen = false ∧ ∃ causes : BitVec 5,
      (causes = s.link.causes ∨ causes = s.link.causes ||| BitVec.twoPow 5 Attention.logLevel.bit) ∧
      ((goesToRing1 s.setup.logMode b = true ∧ offer b s =
          { s with log := { s.log with ring1 := s.log.ring1.store (ringCapacity s.setup.logMode) s.tie.station b }
                   link := { s.link with causes := causes } }) ∨
       (goesToRing1 s.setup.logMode b = false ∧ offer b s =
          { s with log := { s.log with ring0 := s.log.ring0.store (ringCapacity s.setup.logMode) s.tie.station b }
                   link := { s.link with causes := causes } }))) := by
  by_cases hf : s.log.frozen = true
  · exact .inl ⟨hf, by simp [offer, hf]⟩
  · have hf' : s.log.frozen = false := by simpa using hf
    refine .inr ⟨hf', ?_⟩
    by_cases hr : goesToRing1 s.setup.logMode b = true
    · by_cases hw : reachesWatermark s.setup.watermark s.log.ring1
          (s.log.ring1.store (ringCapacity s.setup.logMode) s.tie.station b) = true
      · exact ⟨_, .inr rfl, .inl ⟨hr, by simp [offer, hf', hr, hw, setCause]⟩⟩
      · exact ⟨_, .inl rfl, .inl ⟨hr, by simp [offer, hf', hr, hw]⟩⟩
    · by_cases hw : reachesWatermark s.setup.watermark s.log.ring0
          (s.log.ring0.store (ringCapacity s.setup.logMode) s.tie.station b) = true
      · exact ⟨_, .inr rfl, .inr ⟨by simpa using hr, by simp [offer, hf', hr, hw, setCause]⟩⟩
      · exact ⟨_, .inl rfl, .inr ⟨by simpa using hr, by simp [offer, hf', hr, hw]⟩⟩

/-- Offering a record changes the log and the attention causes, nothing else. -/
theorem offer_frame (b : RecordBody) (s : State) :
    offer b s = { s with log := (offer b s).log
                         link := { s.link with causes := (offer b s).link.causes } } := by
  rcases offer_cases b s with ⟨_, h⟩ | ⟨_, _, _, ⟨_, h⟩ | ⟨_, h⟩⟩ <;> rw [h]

@[simp] theorem offer_runner (b : RecordBody) (s : State) : (offer b s).runner = s.runner := by rw [offer_frame]

@[simp] theorem offer_plan (b : RecordBody) (s : State) : (offer b s).plan = s.plan := by rw [offer_frame]

@[simp] theorem offer_setup (b : RecordBody) (s : State) : (offer b s).setup = s.setup := by rw [offer_frame]

@[simp] theorem offer_filters (b : RecordBody) (s : State) : (offer b s).filters = s.filters := by rw [offer_frame]

@[simp] theorem offer_sweep (b : RecordBody) (s : State) : (offer b s).sweep = s.sweep := by rw [offer_frame]

@[simp] theorem offer_streams (b : RecordBody) (s : State) : (offer b s).streams = s.streams := by rw [offer_frame]

@[simp] theorem offer_round (b : RecordBody) (s : State) : (offer b s).round = s.round := by rw [offer_frame]

@[simp] theorem offer_clocks (b : RecordBody) (s : State) : (offer b s).clocks = s.clocks := by rw [offer_frame]

@[simp] theorem offer_ports (b : RecordBody) (s : State) : (offer b s).ports = s.ports := by rw [offer_frame]

@[simp] theorem offer_tallies (b : RecordBody) (s : State) : (offer b s).tallies = s.tallies := by rw [offer_frame]

@[simp] theorem offer_sites (b : RecordBody) (s : State) : (offer b s).sites = s.sites := by rw [offer_frame]

@[simp] theorem offer_lists (b : RecordBody) (s : State) : (offer b s).lists = s.lists := by rw [offer_frame]

@[simp] theorem offer_search (b : RecordBody) (s : State) : (offer b s).search = s.search := by rw [offer_frame]

@[simp] theorem offer_tie (b : RecordBody) (s : State) : (offer b s).tie = s.tie := by rw [offer_frame]

@[simp] theorem offer_free (b : RecordBody) (s : State) : (offer b s).free = s.free := by rw [offer_frame]

@[simp] theorem offer_pending (b : RecordBody) (s : State) : (offer b s).pending = s.pending := by rw [offer_frame]

@[simp] theorem offer_link_receiver (b : RecordBody) (s : State) : (offer b s).link.receiver = s.link.receiver := by
  rw [offer_frame]

@[simp] theorem offer_link_learned (b : RecordBody) (s : State) : (offer b s).link.learned = s.link.learned := by
  rw [offer_frame]

@[simp] theorem offer_link_candidate (b : RecordBody) (s : State) : (offer b s).link.candidate = s.link.candidate := by
  rw [offer_frame]

@[simp] theorem offer_link_agreement (b : RecordBody) (s : State) : (offer b s).link.agreement = s.link.agreement := by
  rw [offer_frame]

@[simp] theorem offer_link_frame (b : RecordBody) (s : State) : (offer b s).link.frame = s.link.frame := by
  rw [offer_frame]

@[simp] theorem offer_link_response (b : RecordBody) (s : State) : (offer b s).link.response = s.link.response := by
  rw [offer_frame]

@[simp] theorem offer_link_lineHigh (b : RecordBody) (s : State) : (offer b s).link.lineHigh = s.link.lineHigh := by
  rw [offer_frame]

/-- The freeze notice changes the frozen state only (R149). -/
theorem freezeNotice_eq (s : State) :
    freezeNotice s = { s with log := { s.log with frozen := s.log.frozen || s.setup.freeze } } := by
  by_cases h : s.setup.freeze = true
  · simp [freezeNotice, h]
  · simp [freezeNotice, h]

/-! ## The Tie Port -/

/-- All that an own-pull request can do (R136, R137). -/
theorem requestPull_cases (c : OwnCause) (s : State) :
    (s.tie.ownPull.isSome = true ∧ requestPull c s = s) ∨
    (s.tie.ownPull = none ∧ s.tie.stop.isSome = true ∧
      requestPull c s = { s with tie := { s.tie with ownPull := some c } }) ∨
    (s.tie.ownPull = none ∧ s.tie.stop = none ∧
      requestPull c s =
        { s with tie := { s.tie with ownPull := some c, stop := some c.toHalt, reported := false } }) := by
  cases h : s.tie.ownPull with
  | some x => exact .inl ⟨rfl, by simp [requestPull, h]⟩
  | none =>
    cases g : s.tie.stop with
    | some y => exact .inr (.inl ⟨rfl, rfl, by simp [requestPull, h, g]⟩)
    | none => exact .inr (.inr ⟨rfl, rfl, by simp [requestPull, h, g]⟩)

/-! ## The Site Table and the lists -/

/-- All that rejecting a site can do (R82, R85). -/
theorem rejectSite_cases (c : Condition) (i : SiteId) (block page : Option Nat) (s : State) :
    (s.inPlay i = false ∧ rejectSite c i block page s = s) ∨
    (s.inPlay i = true ∧ rejectSite c i block page s =
      offer (.siteRejected { site := i, cause := c, step := s.runner.stepIndex, block := block, page := page })
        (modifySite i
          (fun x => { x with state := .rejected, reject := some { cause := c, step := s.runner.stepIndex } }) s)) := by
  by_cases h : s.inPlay i = true
  · exact .inr ⟨h, by simp [rejectSite, h]⟩
  · exact .inl ⟨by simpa using h, by simp [rejectSite, h]⟩

/-- The three ways in which a list takes a listing request (R98). -/
theorem takeBlock_cases (i : SiteId) (block : Nat) (page : Option Nat) (cause : ListCause) (s : State) :
    (listHolds (s.list i) block = true ∧ takeBlock i block page cause s = (s, false)) ∨
    (listHolds (s.list i) block = false ∧ (s.list i).length < s.setup.listLimit ∧
      (takeBlock i block page cause s).2 = false ∧
      (takeBlock i block page cause s).1 =
        offer (.blockBad { site := i, block := block, page := page, cause := cause, step := s.runner.stepIndex,
                           count := (s.list i).length + 1 })
          { s with
            lists := s.lists.set i
              (s.list i ++ [{ block := block, found := some { cause := cause, step := s.runner.stepIndex } }]) }) ∨
    (listHolds (s.list i) block = false ∧ s.setup.listLimit ≤ (s.list i).length ∧
      takeBlock i block page cause s = (s, true)) := by
  by_cases h : listHolds (s.list i) block = true
  · exact .inl ⟨h, by simp [takeBlock, h]⟩
  · by_cases g : (s.list i).length < s.setup.listLimit
    · exact .inr (.inl ⟨by simpa using h, g, by simp [takeBlock, h, g], by simp [takeBlock, h, g]⟩)
    · exact .inr (.inr ⟨by simpa using h, by omega, by simp [takeBlock, h, g]⟩)

end Sys2Proof.Machine
end

