-- ==== Sys2Proof/Laws/Runner.lean ====
section
/-! SUPPORT. The runner's work until it waits: when it does nothing, one piece at a time, and what holds of it because
each piece keeps it. -/
namespace Sys2Proof.Machine

/-- Where the runner has no work at hand, nothing is done. -/
theorem settleWithin_of_not_busy {s : State} (h : s.busy = false) (n : Nat) : settleWithin n s = s := by
  cases n with
  | zero => rfl
  | succ n => simp [settleWithin, h]

/-- Where the runner has no work at hand, `settle` does nothing. -/
theorem settle_of_not_busy {s : State} (h : s.busy = false) : settle s = s := settleWithin_of_not_busy h _

/-- One piece of work at a time. -/
theorem settleWithin_succ_of_busy {s : State} (h : s.busy = true) (n : Nat) :
    settleWithin (n + 1) s = settleWithin n (advance s) := by simp [settleWithin, h]

/-- The runner's work is one piece and then the rest of it. -/
theorem settle_of_busy {s : State} (h : s.busy = true) : settle s = settleWithin (2 ^ 64 - 1) (advance s) :=
  settleWithin_succ_of_busy h _

/-- What every piece of work keeps, the whole of it keeps. -/
theorem settleWithin_induction {P : State → Prop} (hP : ∀ s, P s → s.busy = true → P (advance s)) (n : Nat) :
    ∀ s, P s → P (settleWithin n s) := by
  induction n with
  | zero => exact fun _ h => h
  | succ n ih =>
    intro s h
    by_cases hb : s.busy = true
    · rw [settleWithin_succ_of_busy hb]; exact ih _ (hP s h hb)
    · rw [settleWithin_of_not_busy (by simpa using hb)]; exact h

/-- What every piece of work keeps, `settle` keeps. -/
theorem settle_induction {P : State → Prop} (hP : ∀ s, P s → s.busy = true → P (advance s)) {s : State} (h : P s) :
    P (settle s) := settleWithin_induction hP _ s h

/-- Outside RUNNING the runner has no work at hand. -/
theorem not_busy_of_state {s : State} (h : s.runner.state ≠ .running) : s.busy = false := by
  simp [State.busy, h]

/-- While the runner waits for a round it has no work at hand. -/
theorem not_busy_of_inRound {s : State} {a : Ask} (h : s.runner.point = .inRound a) : s.busy = false := by
  simp [State.busy, h]

end Sys2Proof.Machine
end

