-- ==== Sys2Proof/Laws/Events.lean ====
section
/-! SUPPORT. What the shared operations of the runner, the Tie Port and the handling of a site's event can do, and
what they leave alone. -/
namespace Sys2Proof.Machine

/-- A request is taken, or lost (R163). -/
theorem onRequest_cases (op : State → State) (s : State) :
    (s.linkTakes = true ∧ onRequest op s = op s) ∨ (s.linkTakes = false ∧ onRequest op s = s) := by
  cases h : s.linkTakes <;> simp [onRequest, h]

/-- On an empty queue: a piece of the runner's work, or one µs of the timebase (log entries 1 and 39). -/
theorem idle_cases (s : State) : (s.busy = true ∧ idle s = advance s) ∨ (s.busy = false ∧ idle s = tick s) := by
  cases h : s.busy <;> simp [idle, h]

/-- One µs of the timebase, with the line's level a free value in a hold-off only (log entry 28). -/
theorem tick_cases (s : State) :
    (s.link.holdOff = none ∧ tick s = tickWith true s) ∨
    (∃ n, s.link.holdOff = some n ∧
      tick s = { tickWith (Config.lineIsHigh s.free) s with free := s.free + 1 }) := by
  cases h : s.link.holdOff <;> simp [tick, h]

/-- A hold-off one µs later: over, one µs nearer its end, or begun afresh by a line that is low (R162). -/
theorem holdOffTick_cases (l : Link) (high : Bool) :
    (l.holdOff = none ∧ l.holdOffTick high = none) ∨
    (∃ n, l.holdOff = some n ∧ high = false ∧ l.holdOffTick high = some 0) ∨
    (∃ n, l.holdOff = some n ∧ high = true ∧ holdOffOver l.learned (n + 1) = true ∧ l.holdOffTick high = none) ∨
    (∃ n, l.holdOff = some n ∧ high = true ∧ holdOffOver l.learned (n + 1) = false ∧
      l.holdOffTick high = some (n + 1)) := by
  cases h : l.holdOff with
  | none => simp [Link.holdOffTick, h]
  | some n => cases high <;> cases g : holdOffOver l.learned (n + 1) <;> simp [Link.holdOffTick, h, g]

/-! ## Halts and stops -/

/-- Entering HALTED: the runner record, the quiet drive, and changes of the log and the causes only (R18, R129). -/
theorem enterHalted_frame (cause : Option HaltCause) (s : State) :
    ∃ (log : ResultLog) (causes : BitVec 5), enterHalted cause s =
      { s with
        runner := { s.runner with state := .halted, haltCause := s.runner.haltCause <|> cause, pendingPause := false,
                                  singleStep := false, point := .rest }
        tie := s.tie.quiet
        log := log
        link := { s.link with causes := causes } } := by
  unfold enterHalted
  dsimp only
  rw [freezeNotice_eq, offer_frame]
  exact ⟨_, _, rfl⟩

/-- Entering DONE: the runner record, the quiet drive, and changes of the log and the causes only (R13, R129). -/
theorem enterDone_frame (way : EndWay) (s : State) :
    ∃ (log : ResultLog) (causes : BitVec 5), enterDone way s =
      { s with
        runner := { s.runner with state := .done, pendingPause := false, singleStep := false, repeatContext := none,
                                  point := .rest }
        tie := s.tie.quiet
        log := log
        link := { s.link with causes := causes } } := by
  unfold enterDone
  dsimp only
  rw [offer_frame]
  exact ⟨_, _, rfl⟩

/-- Between two rounds a stop halts the runner at once, but for the handing out of a search's results, which holds it
(R17, R121). -/
theorem stopBetweenRounds_cases (cause : HaltCause) (s : State) :
    (∃ held, s.runner.point = .handOut held ∧ stopBetweenRounds cause s =
      { s with runner := { s.runner with point := .handOut (held <|> some cause) } }) ∨
    ((∀ held, s.runner.point ≠ .handOut held) ∧ stopBetweenRounds cause s = enterHalted (some cause) s) := by
  cases h : s.runner.point <;> simp [stopBetweenRounds, h]

/-- The ways in which the runner takes a stop in force (R17). -/
theorem runnerStop_cases (cause : HaltCause) (s : State) :
    (s.runner.state = .running ∧ s.runner.roundInFlight = true ∧ runnerStop cause s =
      freezeNotice { s with runner := { s.runner with state := .halting, haltCause := some cause } }) ∨
    (s.runner.state = .running ∧ s.runner.roundInFlight = false ∧ runnerStop cause s = stopBetweenRounds cause s) ∨
    ((s.runner.state = .atMark ∨ s.runner.state = .paused ∨ s.runner.state = .logStall) ∧
      runnerStop cause s = enterHalted (some cause) s) ∨
    ((s.runner.state = .halting ∨ s.runner.state = .halted ∨ s.runner.state = .idle ∨ s.runner.state = .done) ∧
      runnerStop cause s = s) := by
  cases h : s.runner.state <;> cases g : s.runner.roundInFlight <;> simp [runnerStop, h, g]

/-- A stop in force is reported to the runner once (R137). -/
theorem takeStop_cases (s : State) :
    (s.stopSettled = true ∧ takeStop s = s) ∨
    (∃ cause, s.tie.stop = some cause ∧ s.tie.reported = false ∧
      takeStop s = runnerStop cause { s with tie := { s.tie with reported := true } }) := by
  unfold takeStop State.stopSettled
  cases h : s.tie.stop <;> cases g : s.tie.reported <;> simp

/-! ## The handling of a site's event -/

/-- A change that a handling can make: the sites, the lists, the log, the causes, and the own pull with the stop that
it brings. -/
structure HandlingFrame (s t : State) : Prop where
  frame : t = { s with
    sites := t.sites, lists := t.lists, log := t.log
    tie := { s.tie with ownPull := t.tie.ownPull, stop := t.tie.stop, reported := t.tie.reported }
    link := { s.link with causes := t.link.causes } }

theorem HandlingFrame.refl (s : State) : HandlingFrame s s := ⟨rfl⟩

theorem HandlingFrame.trans {s t u : State} (h : HandlingFrame s t) (g : HandlingFrame t u) : HandlingFrame s u := by
  obtain ⟨h⟩ := h
  obtain ⟨g⟩ := g
  rw [h] at g
  exact ⟨g⟩

theorem offer_handling (b : RecordBody) (s : State) : HandlingFrame s (offer b s) := ⟨by rw [offer_frame]⟩

theorem modifySite_handling (i : SiteId) (f : Site → Site) (s : State) : HandlingFrame s (modifySite i f s) := ⟨rfl⟩

theorem raise_handling (c : Condition) (i : SiteId) (s : State) : HandlingFrame s (raise c i s) := ⟨rfl⟩

theorem requestPull_handling (c : OwnCause) (s : State) : HandlingFrame s (requestPull c s) := by
  rcases requestPull_cases c s with ⟨_, h⟩ | ⟨_, _, h⟩ | ⟨_, _, h⟩ <;> rw [h] <;> exact ⟨rfl⟩

theorem rejectSite_handling (c : Condition) (i : SiteId) (block page : Option Nat) (s : State) :
    HandlingFrame s (rejectSite c i block page s) := by
  rcases rejectSite_cases c i block page s with ⟨_, h⟩ | ⟨_, h⟩ <;> rw [h]
  · exact .refl s
  · exact (modifySite_handling i _ s).trans (offer_handling _ _)

theorem stopTest_handling (raised : List Condition) (i : SiteId) (block page : Option Nat) (s : State) :
    HandlingFrame s (stopTest raised i block page s) := by
  unfold stopTest
  dsimp only
  split <;> split <;>
    first
      | exact (rejectSite_handling _ _ _ _ _).trans (requestPull_handling _ _)
      | exact rejectSite_handling _ _ _ _ _
      | exact requestPull_handling _ _
      | exact .refl s

theorem filterAction_handling (a : Action) (i : SiteId) (block page : Option Nat) (s : State) :
    HandlingFrame s (filterAction a i block page s) := by
  cases a with
  | ignore => exact .refl s
  | log => exact .refl s
  | rejectSite => exact (raise_handling _ i s).trans (rejectSite_handling _ _ _ _ _)
  | stopAll => exact (raise_handling _ i s).trans (requestPull_handling _ _)

theorem setList_handling (lists : PerSite (List Entry)) (s : State) : HandlingFrame s { s with lists := lists } :=
  ⟨rfl⟩

theorem requestListing_handling (i : SiteId) (block : Nat) (page : Option Nat) (cause : ListCause) (s : State) :
    HandlingFrame s (requestListing i block page cause s).1 := by
  have taken : HandlingFrame s (takeBlock i block page cause s).1 := by
    rcases takeBlock_cases i block page cause s with ⟨_, h⟩ | ⟨_, _, _, h⟩ | ⟨_, _, h⟩ <;> rw [h]
    · exact .refl s
    · exact (setList_handling _ s).trans (offer_handling _ _)
    · exact .refl s
  unfold requestListing
  dsimp only
  split
  · exact taken.trans (raise_handling _ i _)
  · exact taken

theorem listEvent_handling (i : SiteId) (e : SiteEvent) (p : Position) (s : State) :
    HandlingFrame s (listEvent i e p s).1 := by
  unfold listEvent
  split
  · exact requestListing_handling _ _ _ _ _
  · exact .refl s

theorem updateTotals_handling (i : SiteId) (e : SiteEvent) (p : Position) (s : State) :
    HandlingFrame s (updateTotals i e p s) := by
  cases e <;> first | exact modifySite_handling _ _ _ | exact .refl s

/-- The handling of an event in full (R81). -/
theorem handleFull_handling (i : SiteId) (e : SiteEvent) (p : Position) (a : Action) (f : Option (Fin 4)) (s : State) :
    HandlingFrame s (handleFull i e p a f s) :=
  ((((((raise_handling _ i s).trans (updateTotals_handling i e p _)).trans (listEvent_handling i e p _)).trans
    (offer_handling _ _)).trans (stopTest_handling _ i _ _ _)).trans (filterAction_handling a i _ _ _))

/-- A trial event at the Site Table sets a flag or does nothing (R86). -/
theorem trialEvent_cases (i : SiteId) (c : Condition) (s : State) :
    trialEvent i c s = s ∨ trialEvent i c s = modifySite i (fun r => { r with trialFailed := true }) s := by
  unfold trialEvent
  split
  · split
    · exact .inr rfl
    · exact .inl rfl
  · exact .inl rfl

theorem trialEvent_handling (i : SiteId) (c : Condition) (s : State) : HandlingFrame s (trialEvent i c s) := by
  rcases trialEvent_cases i c s with h | h <;> rw [h]
  · exact .refl s
  · exact modifySite_handling _ _ _

theorem handleTrial_handling (i : SiteId) (e : SiteEvent) (p : Position) (f : Option (Fin 4)) (s : State) :
    HandlingFrame s (handleTrial i e p f s) := by
  unfold handleTrial
  dsimp only
  split
  · exact (trialEvent_handling _ _ _).trans (offer_handling _ _)
  · exact trialEvent_handling _ _ _

/-- The handling of a classified event (R157, R158, R159). -/
theorem handleEvent_handling (i : SiteId) (e : SiteEvent) (p : Position) (trial : Bool) (s : State) :
    HandlingFrame s (handleEvent i e p trial s) := by
  unfold handleEvent
  dsimp only
  split
  · exact .refl s
  · split
    · exact handleTrial_handling _ _ _ _ _
    · exact handleFull_handling _ _ _ _ _ _

/-- The handling of a READY_TIMEOUT (R48). -/
theorem handleTimeout_handling (i : SiteId) (block page : Option Nat) (trial : Bool) (s : State) :
    HandlingFrame s (handleTimeout i block page trial s) := by
  unfold handleTimeout
  split
  · exact trialEvent_handling _ _ _
  · exact (raise_handling _ i s).trans (stopTest_handling _ _ _ _ _)

/-- The handling of one site's result (R118). -/
theorem handOutSite_handling (c : Search) (s : State) (i : SiteId) : HandlingFrame s (handOutSite c s i) := by
  unfold handOutSite
  dsimp only
  split
  · exact (modifySite_handling i _ s).trans (offer_handling _ _)
  · exact (((modifySite_handling i _ s).trans (offer_handling _ _)).trans (raise_handling _ i _)).trans
      (stopTest_handling _ i _ _ _)

/-! ## Steps and barriers -/

/-- The runner goes to a boundary, or enters DONE past step 255 (R13). -/
theorem goTo_cases (index : Nat) (s : State) :
    (index < 256 ∧ goTo index s = { s with runner := { s.runner with stepIndex := index, point := .boundary } }) ∨
    (256 ≤ index ∧ goTo index s = enterDone .planExhausted s) := by
  unfold goTo
  split
  · exact .inl ⟨by assumption, rfl⟩
  · exact .inr ⟨by omega, rfl⟩

/-- An arrival waits at an enlisted station and passes at any other (R131, R133). -/
theorem arrive_cases (kind : BarrierKind) (vote : Option Verdict) (s : State) :
    let waiting : State :=
      { s with
        tie := s.tie.arrive kind vote s.setup.rendezvousTimeout
        runner := { s.runner with state := .atMark, point := .mark } }
    (s.isEnlisted = true ∧ arrive kind vote s = waiting) ∨
    (s.isEnlisted = false ∧ arrive kind vote s =
      passBarrier { kind := kind, line := parityOf s.tie.barrier, waited := 0 } (vote.getD .pass) 0 waiting) := by
  intro waiting
  cases h : s.isEnlisted <;> simp [arrive, h, waiting]

/-- The boundary's outcomes, in the order of its checks (R11). -/
theorem boundary_cases (s : State) :
    (s.runner.pendingPause = true ∧ boundary s = enterPaused s) ∨
    (s.runner.pendingPause = false ∧ s.headroomShort = true ∧ boundary s = enterLogStall s) ∨
    (s.runner.pendingPause = false ∧ s.headroomShort = false ∧
      (∃ cause, s.tie.stop = some cause ∧ boundary s = enterHalted (some cause) s)) ∨
    (s.runner.pendingPause = false ∧ s.headroomShort = false ∧ s.tie.stop = none ∧ boundary s = passBoundary s) := by
  unfold boundary
  cases h : s.runner.pendingPause <;> cases g : s.headroomShort <;> cases k : s.tie.stop <;> simp

/-- A round ends when no participant is WAITING (R56). -/
theorem endRoundIfDone_cases (s : State) :
    (s.round.isSome = true ∧ anyWaiting s = false ∧ endRoundIfDone s = endRound s) ∨
    ((s.round = none ∨ anyWaiting s = true) ∧ endRoundIfDone s = s) := by
  unfold endRoundIfDone
  cases h : s.round <;> cases g : anyWaiting s <;> simp

/-- The end of a round in HALTING enters HALTED, with no successor worked out; otherwise the runner, whose round it was,
goes on (R17, R31, R56). -/
theorem endRound_cases (s : State) :
    let ended : State := { s with round := none, runner := { s.runner with roundInFlight := false } }
    (s.runner.state = .halting ∧ endRound s = enterHalted s.tie.stop ended) ∨
    (s.runner.state ≠ .halting ∧ (∃ a, s.runner.point = .inRound a ∧ endRound s = afterRound a ended)) ∨
    (s.runner.state ≠ .halting ∧ (∀ a, s.runner.point ≠ .inRound a) ∧ endRound s = ended) := by
  intro ended
  cases h : s.runner.state <;> cases g : s.runner.point <;> simp [endRound, h, g, ended]

/-- After a passing the runner stands at a boundary, goes on past its step, or decides the search's next trial
(R16). -/
theorem afterBarrier_cases (kind : BarrierKind) (sampled : Verdict) (barrier : Nat) (s : State) :
    (kind = .start ∧ afterBarrier kind sampled barrier s = { s with runner := { s.runner with point := .boundary } }) ∨
    (kind = .rendezvous ∧ afterBarrier kind sampled barrier s = workDone s) ∨
    (kind = .trial ∧ afterBarrier kind sampled barrier s = trialPassed sampled barrier s) := by
  cases kind <;> simp [afterBarrier]

/-! ## The handing out of a search's results -/

/-- When every site's handling is done: a held stop is taken, else the final trim round is asked for, or the search is
complete (R119, R121). -/
theorem afterResults_cases (c : Search) (s : State) :
    (∃ cause, s.runner.point = .handOut (some cause) ∧ afterResults c s = enterHalted (some cause) s) ∨
    ((∀ cause, s.runner.point ≠ .handOut (some cause)) ∧ anyResult c = true ∧
      afterResults c s = { s with runner := { s.runner with point := .ask .finalTrim } }) ∨
    ((∀ cause, s.runner.point ≠ .handOut (some cause)) ∧ anyResult c = false ∧
      afterResults c s = completeSearch s) := by
  unfold afterResults
  split
  · next cause h => exact .inl ⟨cause, h, rfl⟩
  · next h =>
    cases g : anyResult c
    · exact .inr (.inr ⟨fun cause e => h cause e, rfl, rfl⟩)
    · exact .inr (.inl ⟨fun cause e => h cause e, rfl, rfl⟩)

/-- The handing out goes on while a site's handling is to come (R118, R119). -/
theorem handOutOn_cases (c : Search) (s : State) :
    (c.outstanding = 0 ∧ handOutOn c s = afterResults c s) ∨ (c.outstanding ≠ 0 ∧ handOutOn c s = s) := by
  unfold handOutOn
  cases h : c.outstanding == 0
  · exact .inr ⟨by simpa using h, rfl⟩
  · exact .inl ⟨by simpa using h, rfl⟩

end Sys2Proof.Machine
end

