-- ==== Sys2Proof/Laws/PerInstr.lean ====
section
/-! SUPPORT. Per command: a term that no frame can carry is a request of the link; the events at the pins, lines,
ports and timers are well formed by their operands' types (section 10.2). -/
namespace Sys2Proof.Laws

/-- An ill-formed command is a request of the link. -/
def IllFormed.Statement (i : Instr) : Prop := i.wellFormed = false → Machine.isRequest i = true

theorem IllFormed.start : IllFormed.Statement .start := fun _ => rfl
theorem IllFormed.pause : IllFormed.Statement .pause := fun _ => rfl
theorem IllFormed.stepRun : IllFormed.Statement .stepRun := fun _ => rfl
theorem IllFormed.resume : IllFormed.Statement .resume := fun _ => rfl
theorem IllFormed.abort : IllFormed.Statement .abort := fun _ => rfl
theorem IllFormed.stopAll : IllFormed.Statement .stopAll := fun _ => rfl
theorem IllFormed.clearResults : IllFormed.Statement .clearResults := fun _ => rfl
theorem IllFormed.reset : IllFormed.Statement .reset := fun _ => rfl
theorem IllFormed.responseEnd : IllFormed.Statement .responseEnd := fun h => nomatch h
theorem IllFormed.setupWrite (index : Word) (words : List Word) : IllFormed.Statement (.setupWrite index words) :=
    fun _ => rfl
theorem IllFormed.siteCfgWrite (index : Word) (words : List Word) : IllFormed.Statement (.siteCfgWrite index words) :=
    fun _ => rfl
theorem IllFormed.preload (site : SiteId) (position : Fin 64) (words : List Word) : IllFormed.Statement (.preload site position words) :=
    fun _ => rfl
theorem IllFormed.truncation (site : SiteId) (words : List Word) : IllFormed.Statement (.truncation site words) :=
    fun _ => rfl
theorem IllFormed.write (area : BitVec 4) (index : Word) (words : List Word) : IllFormed.Statement (.write area index words) :=
    fun _ => rfl
theorem IllFormed.drain (ring : Word) (count : Nat) : IllFormed.Statement (.drain ring count) := fun _ => rfl
theorem IllFormed.enlist (value : Word) : IllFormed.Statement (.enlist value) := fun _ => rfl
theorem IllFormed.ack (causes : Word) : IllFormed.Statement (.ack causes) := fun _ => rfl
theorem IllFormed.probe : IllFormed.Statement .probe := fun _ => rfl
theorem IllFormed.powerOnReset (straps : BitVec 4) : IllFormed.Statement (.powerOnReset straps) := fun h => nomatch h
theorem IllFormed.eligibleInterval (ticks : Nat) : IllFormed.Statement (.eligibleInterval ticks) := fun h => nomatch h
theorem IllFormed.lineIdleTimeout : IllFormed.Statement .lineIdleTimeout := fun h => nomatch h
theorem IllFormed.settlingEnd : IllFormed.Statement .settlingEnd := fun h => nomatch h
theorem IllFormed.lineBreak : IllFormed.Statement .lineBreak := fun h => nomatch h
theorem IllFormed.framingError : IllFormed.Statement .framingError := fun h => nomatch h
theorem IllFormed.frameGapTimeout : IllFormed.Statement .frameGapTimeout := fun h => nomatch h
theorem IllFormed.barrierPass (peerVeto : Bool) : IllFormed.Statement (.barrierPass peerVeto) := fun h => nomatch h
theorem IllFormed.issue (site : SiteId) : IllFormed.Statement (.issue site) := fun h => nomatch h
theorem IllFormed.pollTimerExpiry (site : SiteId) : IllFormed.Statement (.pollTimerExpiry site) := fun h => nomatch h
theorem IllFormed.statusResult (site : SiteId) (status : Byte) : IllFormed.Statement (.statusResult site status) :=
    fun h => nomatch h
theorem IllFormed.deadlineExpiry (site : SiteId) : IllFormed.Statement (.deadlineExpiry site) := fun h => nomatch h
theorem IllFormed.dataPartEnd (site : SiteId) : IllFormed.Statement (.dataPartEnd site) := fun h => nomatch h
theorem IllFormed.discardedTransactionEnd (site : SiteId) : IllFormed.Statement (.discardedTransactionEnd site) :=
    fun h => nomatch h
theorem IllFormed.rendezvousTimeout : IllFormed.Statement .rendezvousTimeout := fun h => nomatch h
theorem IllFormed.stopFall : IllFormed.Statement .stopFall := fun h => nomatch h
theorem IllFormed.stopRise : IllFormed.Statement .stopRise := fun h => nomatch h
theorem IllFormed.byteTaken (byte : Byte) : IllFormed.Statement (.byteTaken byte) := fun h => nomatch h
theorem IllFormed.settlingEdge : IllFormed.Statement .settlingEdge := fun h => nomatch h
theorem IllFormed.readByte (site : SiteId) (byte : Byte) : IllFormed.Statement (.readByte site byte) :=
    fun h => nomatch h
theorem IllFormed.unknownRequestFrame : IllFormed.Statement .unknownRequestFrame := fun _ => rfl

end Sys2Proof.Laws
end

