-- ==== Sys2Proof/Tests/Slice0.lean ====
section
/-! SUPPORT. Tests: the well-formedness checks, single commands against the worked cases of spec/, and for every
statement with hypotheses a state and operands that meet them. -/
namespace Sys2Proof.Tests

open Sys2Proof.Machine

-- One test after the other: each waits for the kernel's check of the text before it, and a thread for each of them
-- that waits would not fit in the check's memory.
set_option Elab.async false

/-! ## States -/

/-- After reset, with the receiver READY at a learned two-bit period of 40 ticks. -/
def linked : State :=
  { State.reset with link := { State.reset.link with receiver := .ready, learned := some 40 } }

/-- The state with its runner in a state and at a point. -/
def running (x : RunState) (p : Point) (s : State) : State := { s with runner := { s.runner with state := x, point := p } }

/-- Enlisted, both mark lines pulled. -/
def enlisted (s : State) : State :=
  { s with tie := { s.tie with enlistment := .enlisted, lock := true, markE := true, markO := true } }

/-- A site record in a state. -/
def siteIn (x : SiteState) : Site := { Site.reset with state := x }

/-- Two records of a plan: the first with the given words, the rest END. -/
def withPlan (words : List Word) (s : State) : State := { s with plan := storePlan s.plan 0 words }

/-- A READ round of the pair (2, 1) in flight, sites 0 and 1 WAITING in a phase; the port of site 0 carries `tx`. -/
def inRound (w : RoundWork) (trial : Bool) (phase : Phase) (tx : Tx) : State :=
  { linked with
    runner := { Runner.reset with state := .running, roundInFlight := true, point := .inRound .sweep, stepIndex := 6 }
    round := some { work := w, participants := 3, trial := trial }
    sites := (linked.sites.set 0 { siteIn .waiting with phase := some phase, runCount := 1 }).set 1
      { siteIn .waiting with phase := some phase }
    clocks := linked.clocks.set 0 { poll := none, deadline := some { limit := 200, elapsed := 40 } }
    ports := linked.ports.set 0 { current := some { tx := tx, live := true }, queued := none } }

/-- The pair (2, 1) of a READ round. -/
def readAt : Position := { kind := .read, block := 2, page := some 1 }

/-- The pair (2, 1) of a PROGRAM round. -/
def programAt : Position := { kind := .program, block := 2, page := some 1 }

/-- A sweep of SOLID pages, background 90. -/
def solidSweep : SweepFields :=
  { op := .verify, firstBlock := 0, lastBlock := 3, firstPage := 0, lastPage := 1, blockOrder := .up,
    pageOrder := .up, major := .blockMajor, pattern := .solid, background := 90, invert := false, careMask := 255,
    seed := 7, visitListed := false }

/-- A READ data part at site 0: `taken` bytes taken, tallies `sums`. -/
def inData (trial : Bool) (taken : Nat) (sums : List Nat) : State :=
  { inRound (.page readAt false) trial .awaitData (.readData readAt) with
    sweep := some { fields := solidSweep, position := some readAt, successor := none }
    tallies := State.reset.tallies.set 0
      (some { block := 2, page := 1, trialCode := none, taken := taken, sums := sums }) }

/-- A MAINFRAME search of three bits at trial 1 (chapter 11, section 11.2). -/
def search1 : Search :=
  { step := 0
    fields := { address := 40, bits := 3, polarity := .descending, scope := .mainframe, body := 1, failSet := 2,
                margin := -1, logTrials := false }
    members := 1, trial := 1, phase := .vote, values := Table.replicate 32 0, stationValue := 0, trialSet := 1
    codes := Table.replicate 32 none, stationCode := some 4, localVote := some .pass, combined := none
    results := Table.replicate 32 none, outstanding := 0 }

/-- An enlisted station waiting at a barrier of a kind, with a PAUSE pending. -/
def atBarrier (kind : BarrierKind) (line : Parity) (barrier : Nat) : State :=
  { enlisted linked with
    runner := { Runner.reset with state := .atMark, pendingPause := true, stepIndex := 1, point := .mark }
    tie := { (enlisted linked).tie with
      barrier := barrier, wait := some { kind := kind, line := line, waited := 0 }, timer := some 0
      markE := line == .odd, markO := line == .even } }

/-- What a property says of the next state of a command. -/
def after (c : Instr) (s : State) (p : State → Bool) : Bool :=
  match exec c s with
  | .next t => p t
  | .fault _ => false
  | .refused _ => false

/-- What a property says of the next state of a request whose response has ended before the next command. -/
def afterAll (commands : List Instr) (s : State) (p : State → Bool) : Bool :=
  match execAll (commands.flatMap fun c => [c, .responseEnd]) s with
  | some t => p t
  | none => false

/-- The bytes of the response in progress. -/
def reply (s : State) : List Byte := (s.link.response.map Response.bytes).getD []

/-! ## Well-formedness: each check refuses its ill-formed term -/

theorem test_setupWrite_no_words : (Instr.setupWrite 0 []).wellFormed = false := by decide
theorem test_siteCfgWrite_no_words : (Instr.siteCfgWrite 0 []).wellFormed = false := by decide
theorem test_preload_no_words : (Instr.preload 0 0 []).wellFormed = false := by decide
theorem test_truncation_no_words : (Instr.truncation 0 []).wellFormed = false := by decide
theorem test_write_too_many_words : (Instr.write 1 0 (List.replicate 257 0)).wellFormed = false := by decide +kernel
theorem test_drain_count_0 : (Instr.drain 0 0).wellFormed = false := by decide
theorem test_drain_count_257 : (Instr.drain 0 257).wellFormed = false := by decide
theorem test_drain_count_256 : (Instr.drain 0 256).wellFormed = true := by decide
theorem test_no_word_spells_a_command : decodeTableWord 16 5 = none := by decide

/-! ## Run commands -/

/-- Section 11.1: START at an enlisted station waits at barrier 0, MARK-O pulled and MARK-E released. -/
theorem test_start_enlisted_waits :
    after .start (enlisted linked) (fun t => t.runner.state == .atMark && !t.tie.markE && t.tie.markO) = true := by
  decide +kernel

/-- R133, R13: a station that is not enlisted, with an empty plan, ends in DONE with barrier number 1. -/
theorem test_start_empty_plan :
    after .start linked (fun t => t.runner.state == .running && t.tie.barrier == 1 &&
      (settle t).runner.state == .done && (settle t).log.ring0.next == 2) = true := by
  decide +kernel

theorem test_pause_refused_in_idle : after .pause linked (fun t => reply t == [4]) = true := by decide +kernel

theorem test_pause_in_atMark :
    after .pause (running .atMark .mark linked) (fun t => t.runner.pendingPause && reply t == [0]) = true := by
  decide +kernel

/-- R20: STEP over a MARKER step with label 3 pauses at step 1. -/
theorem test_step_over_marker :
    after .stepRun (running .paused .boundary (withPlan [1795] linked))
      (fun t => (settle t).runner.state == .paused && (settle t).runner.stepIndex == 1 &&
        (settle t).log.ring0.next == 1) = true := by
  decide +kernel

theorem test_resume_to_done :
    after .resume (running .paused .boundary linked)
      (fun t => (settle t).runner.state == .done && (settle t).hasCause .runEnded) = true := by decide +kernel

/-- R16: the passing first and the stop second: halted before step 0 begins, barrier 0 counted as passed. -/
theorem test_passing_first_stop_second :
    (execAll [.start, .responseEnd, .barrierPass false, .stopFall] (enlisted linked)).map
      (fun t => (t.runner.state, t.tie.barrier, t.runner.stepIndex, t.log.ring0.next)) =
      some (.halted, 1, 0, 2) := by decide +kernel

theorem test_abort_releases_stop :
    afterAll [.stopAll, .abort] (enlisted linked) (fun t => t.tie.ownPull == none && t.tie.stop == none) = true := by
  decide +kernel

theorem test_stopAll_in_idle_holds_stop :
    after .stopAll (enlisted linked) (fun t => t.tie.stop == some .hostStop && t.runner.state == .idle) = true := by
  decide +kernel

/-- Section 6.7: CLEAR_RESULTS takes the FOUND entries and keeps the PRELOADED one. -/
theorem test_clearResults_keeps_preloaded :
    after .clearResults
      { linked with
        lists := linked.lists.set 6
          [{ block := 7, found := none }, { block := 12, found := some { cause := .pageFail, step := 2 } }] }
      (fun t => (t.list 6).map Entry.block == [7]) = true := by decide +kernel

theorem test_reset_clears_causes_after_its_byte :
    afterAll [.reset] (setCause .halted linked) (fun t => t.link.causes == 0 && t.link.learned == some 40) = true := by
  decide +kernel

theorem test_responseEnd_takes_bytes_again :
    afterAll [.probe] linked (fun t => t.linkTakes) = true := by decide +kernel

/-! ## Requests -/

/-- Section 10.6, worked case: words 16, 0, 0, 0 at index 10. -/
theorem test_setup_worked_case :
    after (.setupWrite 10 [16, 0, 0, 0]) linked
      (fun t => t.setup.readDeadline == 1048575 && t.setup.programDeadline == 1 && t.setup.eraseDeadline == 20000) =
      true := by decide +kernel

/-- R171: page bytes 5000 are rounded down to 4608. -/
theorem test_setup_rounds_page_bytes :
    after (.setupWrite 2 [5000]) linked (fun t => t.setup.pageBytes == 4608) = true := by decide +kernel

/-- Section 5.9: enable 9, trim 33, in IDLE. -/
theorem test_siteCfg_enables :
    after (.siteCfgWrite 18 [1, 33]) linked (fun t => (t.site 9).state == .active && (t.site 9).trim == 33) = true := by
  decide +kernel

/-- Section 5.9: an enable in RUNNING is refused with WRONG_STATE. -/
theorem test_siteCfg_enable_refused_running :
    after (.siteCfgWrite 20 [1]) (running .running .rest linked)
      (fun t => reply t == [4] && (t.site 10).state == .off) = true := by decide +kernel

/-- Section 6.8, frame 1: the second 7 and the second 19 are passed over. -/
theorem test_preload_passes_over_duplicates :
    after (.preload 4 0 [7, 19, 7, 300, 19]) linked (fun t => (t.list 4).map Entry.block == [7, 19, 300]) = true := by
  decide +kernel

/-- Section 6.8, frames 2 and 4: BAD_INDEX for position 0, BAD_REQUEST for block 5000. -/
theorem test_preload_refusals :
    afterAll [.preload 4 0 [7, 19, 300]] linked (fun t =>
      after (.preload 4 0 [55]) t (fun u => reply u == [2]) &&
      after (.preload 4 3 [4095, 5000]) t (fun u => reply u == [1])) = true := by decide +kernel

/-- Section 6.8, frames 6 and 7: truncated to 2, then 5 is above the count. -/
theorem test_truncation_worked_case :
    afterAll [.preload 4 0 [7, 19, 300], .truncation 4 [2]] linked (fun t =>
      (t.list 4).map Entry.block == [7, 19] && after (.truncation 4 [5]) t (fun u => reply u == [1])) = true := by
  decide +kernel

/-- R173: a REPEAT of span 2 and count 3 at step 3 passes the plan check's tests as record words. -/
theorem test_write_plan_word :
    after (.write 1 50 [2, 3]) linked (fun t => (t.plan.get 3).get 2 == 2 && (t.plan.get 3).get 3 == 3) = true := by
  decide +kernel

theorem test_write_status_read_only : after (.write 7 0 [1]) linked (fun t => reply t == [3]) = true := by
  decide +kernel

/-- R150, R174: one RUN_START record, kind 2, station 0, sequence 0. -/
theorem test_drain_run_start :
    afterAll [.start] (enlisted linked) (fun t =>
      after (.drain 0 256) t
        (fun u => reply u == [0, 1, 2, 0] ++ List.replicate 14 0 && u.log.ring0.records == [])) = true := by
  decide +kernel

theorem test_drain_ring1_in_unified : after (.drain 1 1) linked (fun t => reply t == [2]) = true := by decide +kernel

theorem test_enlist_then_locked :
    afterAll [.enlist 1] linked (fun t => t.tie.markE && t.tie.markO &&
      after (.enlist 0) t (fun u => reply u == [7])) = true := by decide +kernel

theorem test_ack_clears_one_cause :
    after (.ack 2) (setCause .halted (setCause .paused linked)) (fun t => t.link.causes == 4) = true := by
  decide +kernel

theorem test_probe_reply : after .probe linked (fun t => reply t == [0, 0, 0, 0, 0, 0, 40]) = true := by decide +kernel

theorem test_unknown_frame : after .unknownRequestFrame linked (fun t => reply t == [1]) = true := by decide +kernel

/-! ## The link's lines -/

theorem test_power_on_reset_straps :
    after (.powerOnReset 5) (enlisted linked)
      (fun t => t.tie.station == 5 && t.tie.enlistment == .notEnlisted && t.link.receiver == .unlocked) = true := by
  decide +kernel

/-- Section 10.1, Notes: four equal intervals of one byte of 85 lock the receiver. -/
theorem test_three_intervals_lock :
    (execAll [.eligibleInterval 1734, .eligibleInterval 1733, .eligibleInterval 1735, .settlingEnd] State.reset).map
      (fun t => (t.link.receiver, t.link.learned)) = some (.ready, some 1734) := by decide +kernel

/-- R160: an interval more than one tick shorter becomes the new candidate. -/
theorem test_shorter_interval_replaces :
    (execAll [.eligibleInterval 400, .eligibleInterval 398] State.reset).map
      (fun t => (t.link.candidate, t.link.agreement)) = some (some 398, 1) := by decide +kernel

theorem test_idle_line_discards_candidate :
    (execAll [.eligibleInterval 400, .lineIdleTimeout] State.reset).map (fun t => t.link.candidate) = some none := by
  decide +kernel

theorem test_settlingEdge_restarts_the_wait :
    after .settlingEdge { linked with link := { linked.link with receiver := .settling, lineHigh := 9 } }
      (fun t => t.link.lineHigh == 0) = true := by decide +kernel

theorem test_break_unlocks :
    after .lineBreak (setCause .halted linked)
      (fun t => t.link.receiver == .unlocked && t.link.learned == none && t.hasCause .halted) = true := by
  decide +kernel

/-- R162: after a framing error no byte is taken until the line has been high for one bit period: 40 / 20 = 2 µs. A µs in
which it is low begins that wait afresh. -/
theorem test_framing_error_holds_off :
    (execAll [.byteTaken 112, .framingError, .byteTaken 64] linked).map
      (fun t => (t.link.frame, (tickWith true t).linkTakes, (tickWith true (tickWith true t)).linkTakes,
        (tickWith true (tickWith false (tickWith true t))).linkTakes)) = some ([], false, true, false) := by
  decide +kernel

theorem test_frame_gap_drops_frame :
    (execAll [.byteTaken 112, .frameGapTimeout, .byteTaken 64] linked).map (fun t => t.link.frame) = some [64] := by
  decide +kernel

/-- Section 10.2: the four bytes of a PROBE. -/
theorem test_probe_frame :
    (execAll [.byteTaken 112, .byteTaken 0, .byteTaken 0, .byteTaken 0] linked).map reply =
      some [0, 0, 0, 0, 0, 0, 40] := by decide +kernel

/-- R166, R171: a READ of SETUP words 2 and 3: 4096 and 1024. -/
theorem test_read_frame :
    (execAll [.byteTaken 34, .byteTaken 0, .byteTaken 2, .byteTaken 1] linked).map reply =
      some [0, 16, 0, 4, 0] := by decide +kernel

/-! ## Sites -/

theorem test_issue_starts_deadline :
    after (.issue 0) (inRound (.page readAt false) false .awaitReady (.page readAt false))
      (fun t => (t.clocks.get 0).deadline == some { limit := 200, elapsed := 0 } && (t.port 0).current == none) =
      true := by decide +kernel

theorem test_poll_expiry_begins_status :
    after (.pollTimerExpiry 1)
      { linked with clocks := linked.clocks.set 1 { poll := some { limit := 5, elapsed := 5 }, deadline := none } }
      (fun t => (t.port 1).current == some { tx := .status, live := true } && (t.clocks.get 1).poll == none) =
      true := by decide +kernel

/-- Section 2.5, worked case: ADDRESS at pair (10, 2), B = 90: bytes 0, 1 and 163 of a PROGRAM at a port. -/
theorem test_program_round_carries_its_bytes :
    let f : SweepFields := { solidSweep with op := .program, firstBlock := 10, firstPage := 2, pattern := .address }
    let s : State := { linked with
      runner := { linked.runner with state := .running, point := .ask .sweep }
      setup := { linked.setup with pageBytes := 512 }
      sites := linked.sites.set 5 (siteIn .active)
      sweep := some { fields := f, position := none, successor := some (firstPosition f) } }
    ((advance s).port 5).current.map (fun c => match c.tx with
      | .program p data => (p.block, p.page, data.length, [0, 1, 163].filterMap (data[·]?))
      | _ => (0, none, 0, [])) = some (10, some 2, 512, [92, 93, 255]) := by decide +kernel

/-- R17: the round end first and the stop second: no round in flight, HALTED at once. -/
theorem test_round_end_first_stop_second :
    (execAll [.statusResult 0 128, .stopFall]
      (modifySite 1 (fun _ => siteIn .active) (inRound (.page programAt false) false .awaitReady .status))).map
      (fun t => (t.runner.state, t.round, t.runner.stepIndex)) = some (.halted, none, 7) := by decide +kernel

/-- R45: a mismatch makes the run count 0. -/
theorem test_status_mismatch :
    after (.statusResult 0 0) (inRound (.page readAt false) false .awaitReady .status)
      (fun t => (t.site 0).runCount == 0 && (t.port 0).current == none) = true := by decide +kernel

/-- R51: the second match of a READ begins the data part with four codeword tallies (4096 / 1024). -/
theorem test_status_ready_read :
    after (.statusResult 0 128) (inRound (.page readAt false) false .awaitReady .status)
      (fun t => (t.site 0).phase == some .awaitData &&
        (t.tallies.get 0).map Tally.sums == some [0, 0, 0, 0]) = true := by decide +kernel

/-- Section 5.4: the same expiry outside the search makes the site REJECTED, with the reset site-stop mask. -/
theorem test_deadline_rejects :
    after (.deadlineExpiry 0) (inRound (.page readAt false) false .awaitReady .status)
      (fun t => (t.site 0).reject == some { cause := .readyTimeout, step := 6 } && t.log.ring0.next == 1) = true := by
  decide +kernel

/-- Section 4.3, worked case: 165 against 90 differs in all eight bits. -/
theorem test_readByte_contribution :
    after (.readByte 0 165) (inData false 1024 [1, 0, 0, 0])
      (fun t => (t.tallies.get 0).map Tally.sums == some [1, 8, 0, 0]) = true := by decide +kernel

/-- R67: a tally equal to θ = 40 is not over it. -/
theorem test_data_part_end_data_fail :
    after (.dataPartEnd 0) (inData false 4096 [40, 3, 0, 0])
      (fun t => (t.site 0).current == 1 && (t.site 0).failBits == 43 && (t.site 0).worst == 40 &&
        t.list 0 == []) = true := by decide +kernel

/-- R67, R97: a tally of 41 is a PAGE_FAIL, and the block is listed. -/
theorem test_data_part_end_page_fail :
    after (.dataPartEnd 0) (inData false 4096 [41, 0, 0, 0])
      (fun t => (t.site 0).current == 2 && (t.list 0).map Entry.block == [2] && t.log.ring0.next == 2) = true := by
  decide +kernel

theorem test_discarded_end_idles_port :
    after (.discardedTransactionEnd 3)
      { linked with ports := linked.ports.set 3 { current := some { tx := .status, live := false }, queued := none } }
      (fun t => t.port 3 == Port.idle) = true := by decide +kernel

/-! ## The tie bus -/

/-- Section 11.1: barrier 1 passed, barrier number 2. -/
theorem test_barrier_pass_counts :
    after (.barrierPass false) (atBarrier .start .odd 1)
      (fun t => t.tie.barrier == 2 && t.tie.sampledVeto == some .pass && t.runner.state == .running &&
        (settle t).runner.state == .paused) = true := by
  decide +kernel

/-- Section 11.2, trial 1: the combined verdict FAIL moves r from 0 to 4. -/
theorem test_trial_barrier_moves_value :
    after (.barrierPass true) { atBarrier .trial .odd 1 with search := some search1 }
      (fun t => t.search.map Search.stationValue == some 4 && t.tie.barrier == 2) = true := by decide +kernel

theorem test_rendezvous_timeout_halts :
    after .rendezvousTimeout (atBarrier .start .even 0)
      (fun t => t.runner.haltCause == some .ownTimeout && t.tie.barrier == 0 && t.tie.markE) = true := by
  decide +kernel

theorem test_stop_fall_peer_stop :
    after .stopFall (running .running (.inRound .sweep) { linked with
        runner := { linked.runner with roundInFlight := true } })
      (fun t => t.runner.state == .halting && t.tie.stop == some .peerStop) = true := by decide +kernel

/-- R172: word 22, "in bits 4–0 … in the order MARK-E, MARK-O, VETO-E, VETO-O, STOP": both mark lines pulled. -/
theorem test_own_drive_order :
    flagBits 0 (ownDrive (enlisted linked)) = 24 ∧ flagBits 8 (ownDrive (enlisted linked)) = 6144 := by decide +kernel

theorem test_stop_rise_ends_stop :
    (execAll [.stopFall, .stopRise] linked).map (fun t => t.tie.stop) = some none := by decide +kernel

/-! ## Witnesses: states and operands that meet the hypotheses of the statements -/

/-- The state with a stop in force, taken by the runner. -/
def stopped (c : HaltCause) (s : State) : State := { s with tie := { s.tie with stop := some c, reported := true } }

/-- The state with the commands waiting. -/
def waiting (commands : List Instr) (s : State) : State := { s with pending := commands }

/-- The state after one step; the state itself when the step stops. -/
def stepped (s : State) : State :=
  match step s with
  | .next t => t
  | .fault _ => s
  | .refused _ => s

/-- PAUSED at the boundary before the step at an index, whose record has the given word 0. -/
def pausedAt (index : Nat) (word : Word) : State :=
  let s := running .paused .boundary linked
  { s with runner := { s.runner with stepIndex := index }, plan := storePlan s.plan (16 * index) [word] }

/-- A list of site 4 with three PRELOADED entries. -/
def listed : State := { linked with lists := linked.lists.set 4 ([7, 19, 300].map fun b => { block := b, found := none }) }

/-- HALTED, a quiet state in which a run has stopped. -/
def inHalted : State := running .halted .rest linked

/-- Whether a step answers a next state. -/
def completes (s : State) : Bool :=
  match step s with
  | .next _ => true
  | .fault _ => false
  | .refused _ => false

/-- A step that completes answers the state `stepped` names. -/
theorem step_eq_stepped (s : State) (h : completes s = true) : step s = .next (stepped s) := by
  unfold completes at h
  unfold stepped
  split at h <;> simp_all

/-- A command that a test finds something about answers a next state. -/
theorem next_of_after {c : Instr} {s : State} {p : State → Bool} (h : after c s p = true) : ∃ t, exec c s = .next t := by
  unfold after at h
  split at h <;> simp_all

theorem witness_StepRunsFrontCommand : (waiting [.probe, .start] linked).pending = .probe :: [.start] := rfl

/-- A runner with work at hand, one that waits for a round, and a hold-off at one µs of a bit period of two. -/
theorem witness_EmptyQueueIsOneTick :
    (running .running .boundary linked).pending = [] ∧ (running .running .boundary linked).busy = true ∧
      (inRound (.page readAt false) false .awaitReady .status).pending = [] ∧
      (inRound (.page readAt false) false .awaitReady .status).busy = false ∧
      (∀ n, n = 0 ∨ n = 1 →
        let s : State := { linked with link := { linked.link with holdOff := some n } }
        s.pending = [] ∧ s.busy = false ∧ s.link.holdOff = some n ∧ s.link.learned = some 40) := by
  refine ⟨by decide +kernel, by decide +kernel, by decide +kernel, by decide +kernel, ?_⟩
  rintro n (rfl | rfl) <;> decide +kernel

theorem witness_EmptyQueueIsOneTick_work :
    (settle (running .running .boundary linked)).busy = false ∧
      ((running .running .boundary linked).port 0).discards .sent = false ∧
      ((settle (running .running .boundary linked)).port 0).discards .sent = false ∧
      ((running .running .boundary linked).port 0).discards .status = false ∧
      ((settle (running .running .boundary linked)).port 0).discards .status = false := by decide +kernel

theorem witness_EveryWellFormedCommandIsTaken :
    (Instr.drain 0 256).wellFormed = true ∧ (Instr.drain 0 257).wellFormed = false := by decide +kernel

theorem witness_RequestsAreLostOutsideReady :
    isRequest .start = true ∧ Instr.start.wellFormed = true ∧ State.reset.link.receiver ≠ .ready ∧
      (answer .ok [] linked).link.response.isSome = true ∧
      ({ linked with link := { linked.link with holdOff := some 0 } } : State).link.holdOff.isSome = true := by
  decide +kernel

/-- The Setup fields after reset lie in their ranges. -/
theorem reset_setup_inRange : Setup.reset.InRange := by constructor <;> decide +kernel

theorem witness_SetupStaysInRange :
    (waiting [.setupWrite 2 [5000]] linked).setup.InRange ∧
      step (waiting [.setupWrite 2 [5000]] linked) = .next (stepped (waiting [.setupWrite 2 [5000]] linked)) :=
  ⟨reset_setup_inRange, step_eq_stepped _ (by decide +kernel)⟩

/-- An empty ring is sound. -/
theorem empty_ring_sound : Ring.empty.Sound 2048 := by
  constructor <;> decide +kernel

theorem witness_LogStaysSound :
    (waiting [.start] linked).LogSound ∧ step (waiting [.start] linked) = .next (stepped (waiting [.start] linked)) :=
  ⟨⟨empty_ring_sound, rfl⟩, step_eq_stepped _ (by decide +kernel)⟩

theorem witness_ListsStaySound :
    (waiting [.preload 4 3 [55]] listed).ListsSound ∧
      step (waiting [.preload 4 3 [55]] listed) = .next (stepped (waiting [.preload 4 3 [55]] listed)) :=
  ⟨⟨by decide +kernel, by decide +kernel⟩, step_eq_stepped _ (by decide +kernel)⟩

/-- Every site record after reset is sound. -/
theorem reset_site_sound : Site.reset.Sound := by constructor <;> decide +kernel

theorem witness_SitesStaySound :
    (waiting [.siteCfgWrite 18 [1, 33]] linked).SitesSound ∧
      step (waiting [.siteCfgWrite 18 [1, 33]] linked) = .next (stepped (waiting [.siteCfgWrite 18 [1, 33]] linked)) := by
  refine ⟨fun i => ?_, step_eq_stepped _ (by decide +kernel)⟩
  have h : (waiting [.siteCfgWrite 18 [1, 33]] linked).site i = Site.reset := by revert i; decide +kernel
  rw [h]
  exact reset_site_sound

theorem witness_TieStaysSound :
    (waiting [.start] (enlisted linked)).TieSound ∧
      step (waiting [.start] (enlisted linked)) = .next (stepped (waiting [.start] (enlisted linked))) :=
  ⟨by constructor <;> decide +kernel, step_eq_stepped _ (by decide +kernel)⟩

theorem witness_StartArrivesAtBarrierZero :
    (enlisted linked).linkTakes = true ∧ (enlisted linked).runner.state = .idle ∧ (enlisted linked).tie.stop = none ∧
      planCheck (enlisted linked).setup (enlisted linked).plan = none ∧ (enlisted linked).tie.enlistment = .enlisted := by
  decide +kernel

theorem witness_StartRefusals_state :
    (running .paused .boundary linked).linkTakes = true ∧ (running .paused .boundary linked).runner.state ≠ .idle ∧
      (running .paused .boundary linked).runner.state ≠ .done := by decide +kernel

theorem witness_StartRefusals_stop :
    (stopped .peerStop linked).linkTakes = true ∧ (stopped .peerStop linked).runner.state = .idle ∧
      (stopped .peerStop linked).tie.stop = some .peerStop := by decide +kernel

theorem witness_StartRefusals_plan :
    (withPlan [0x0800] linked).runner.state = .idle ∧ (withPlan [0x0800] linked).tie.stop = none ∧
      planCheck (withPlan [0x0800] linked).setup (withPlan [0x0800] linked).plan =
        some { reason := .badKind, step := 0 } := by decide +kernel

theorem witness_EmptyPlanRunsToDone :
    linked.linkTakes = true ∧ linked.runner.state = .idle ∧ linked.tie.stop = none ∧
      linked.tie.enlistment ≠ .enlisted ∧ kindCode (linked.plan.get 0) = 0 ∧ noteOf (linked.plan.get 0) = false ∧
      linked.setup.logPolicy = .wrap ∧ linked.search = none := by decide +kernel

theorem witness_PauseSetsPendingPause :
    linked.linkTakes = true ∧ (running .running .rest linked).runner.state = .running ∧
      (running .atMark .mark linked).runner.state = .atMark ∧
      (running .logStall .boundary linked).runner.state = .logStall ∧
      (linked.runner.state ≠ .running ∧ linked.runner.state ≠ .atMark ∧ linked.runner.state ≠ .logStall) := by
  decide +kernel

theorem witness_StepRunsOneStep :
    ∀ index, index = 0 ∨ index = 254 →
      (pausedAt index 1795).linkTakes = true ∧ (pausedAt index 1795).runner.state = .paused ∧
        (pausedAt index 1795).runner.pendingPause = false ∧ (pausedAt index 1795).headroomShort = false ∧
        (pausedAt index 1795).tie.stop = none ∧ (pausedAt index 1795).search = none ∧
        (pausedAt index 1795).runner.stepIndex < 255 ∧
        stepAt (pausedAt index 1795).plan (pausedAt index 1795).runner.stepIndex =
          some { note := false, label := 3, body := .marker } := by
  rintro index (rfl | rfl) <;> decide +kernel

theorem witness_StepRunsOneStep_refused : linked.linkTakes = true ∧ linked.runner.state ≠ .paused := by decide +kernel

theorem witness_ResumeRunsEndStep :
    ∀ index, index = 0 ∨ index = 255 →
      (pausedAt index 9).linkTakes = true ∧ (pausedAt index 9).runner.state = .paused ∧
        (pausedAt index 9).runner.pendingPause = false ∧ (pausedAt index 9).headroomShort = false ∧
        (pausedAt index 9).tie.stop = none ∧ (pausedAt index 9).search = none ∧
        stepAt (pausedAt index 9).plan (pausedAt index 9).runner.stepIndex =
          some { note := false, label := 9, body := .endStep } := by
  rintro index (rfl | rfl) <;> decide +kernel

/-- A REPEAT of span 1 and count 2 at step 1, with its context at no passes or at one. -/
theorem witness_RepeatJumpsOrCompletes :
    ∀ passes, passes = 0 ∨ passes = 1 →
      let base := running .paused .boundary linked
      let s : State := { base with
        plan := storePlan base.plan 16 [0x0600, 0, 1, 2]
        runner := { base.runner with stepIndex := 1, repeatContext := some { index := 1, passes := passes } } }
      s.linkTakes = true ∧ s.runner.state = .paused ∧ s.runner.pendingPause = false ∧ s.headroomShort = false ∧
        s.tie.stop = none ∧ s.search = none ∧ s.runner.stepIndex < 255 ∧
        stepAt s.plan s.runner.stepIndex = some { note := false, label := 0, body := .repeatStep 1 2 } := by
  rintro passes (rfl | rfl) <;> decide +kernel

/-- A POLL step of mask 64, value 64, match count 1 and deadline 100, with site 31 ACTIVE. -/
def beforePoll : State :=
  let base := running .paused .boundary linked
  modifySite 31 (fun _ => siteIn .active) { base with plan := storePlan base.plan 0 [0x0200, 0, 0x4040, 1, 0, 100] }

theorem witness_PollRoundIsFormed :
    beforePoll.linkTakes = true ∧ beforePoll.runner.state = .paused ∧ beforePoll.runner.pendingPause = false ∧
      beforePoll.headroomShort = false ∧ beforePoll.tie.stop = none ∧ beforePoll.search = none ∧
      (beforePoll.site 31).state = .active ∧
      stepAt beforePoll.plan beforePoll.runner.stepIndex =
        some { note := false, label := 0, body := .poll 64 64 1 100 } := by decide +kernel

/-- A PROGRAM sweep of blocks 0 to 3 and pages 0 to 1 under RANDOM, with sites 30 and 31 ACTIVE; the list of site 30
holds block 0. -/
def beforeSweep : State :=
  let base := running .paused .boundary linked
  { base with
    plan := storePlan base.plan 0 [0x0100, 0, 0x0103, 0, 3, 0, 1, 0, 0, 255, 7]
    sites := (base.sites.set 30 (siteIn .active)).set 31 (siteIn .active)
    lists := base.lists.set 30 [{ block := 0, found := none }] }

/-- The fields of that step. -/
def randomSweep : SweepFields :=
  { solidSweep with op := .program, pattern := .random, background := 0 }

theorem witness_PollRoundIsFormed_sweep :
    beforeSweep.linkTakes = true ∧ beforeSweep.runner.state = .paused ∧ beforeSweep.runner.pendingPause = false ∧
      beforeSweep.headroomShort = false ∧ beforeSweep.tie.stop = none ∧ beforeSweep.search = none ∧
      stepAt beforeSweep.plan beforeSweep.runner.stepIndex =
        some { note := false, label := 0, body := .sweep randomSweep } ∧
      (beforeSweep.site 31).state = .active ∧ beforeSweep.list 31 = [] ∧ (beforeSweep.site 30).state = .active ∧
      (beforeSweep.list 30).map Entry.block = [(firstPosition randomSweep).block] ∧
      (firstPosition randomSweep).kind = .program := by decide +kernel

theorem witness_AbortReturnsToIdle :
    linked.linkTakes = true ∧ linked.runner.state = .idle ∧ (atBarrier .start .even 0).linkTakes = true ∧
      (atBarrier .start .even 0).runner.state ≠ .idle ∧ (atBarrier .start .even 0).tie.enlistment = .enlisted := by
  decide +kernel

/-- A site WAITING in a round. -/
theorem witness_AbortReturnsToIdle_waiting :
    ((inRound (.page readAt false) false .awaitReady .status).site 0).state = .waiting ∧
      (inRound (.page readAt false) false .awaitReady .status).runner.state ≠ .idle := by decide +kernel

theorem witness_StopAllPullsStop_round :
    let s := inRound (.page readAt false) false .awaitReady .status
    s.linkTakes = true ∧ s.tie.ownPull = none ∧ s.tie.stop = none ∧ s.runner.state = .running ∧
      s.runner.roundInFlight = true := by decide +kernel

theorem witness_StopAllPullsStop_halts :
    let s := atBarrier .start .even 0
    s.linkTakes = true ∧ s.tie.ownPull = none ∧ s.tie.stop = none ∧ s.runner.state = .atMark ∧
      s.log.frozen = false := by decide +kernel

/-- The results of a search are handed out, a stop held or not. -/
theorem witness_StopAllPullsStop_handOut (held : Option HaltCause) :
    let s := running .running (.handOut held) linked
    s.linkTakes = true ∧ s.tie.ownPull = none ∧ s.tie.stop = none ∧ s.runner.state = .running ∧
      s.runner.roundInFlight = false ∧ s.runner.point = .handOut held := ⟨rfl, rfl, rfl, rfl, rfl, rfl⟩

theorem witness_StopAllPullsStop_quiet :
    linked.linkTakes = true ∧ linked.tie.ownPull = none ∧ linked.tie.stop = none ∧ linked.runner.state = .idle := by
  decide +kernel

theorem witness_StopAllPullsStop_reported :
    let s := stopped .peerStop linked
    let own : State := { stopped .hostStop linked with tie := { (stopped .hostStop linked).tie with
      ownPull := some .hostStop } }
    s.linkTakes = true ∧ s.tie.reported = true ∧ s.tie.ownPull = none ∧ s.tie.stop.isSome = true ∧
      own.linkTakes = true ∧ own.tie.reported = true ∧ own.tie.ownPull.isSome = true := by decide +kernel

theorem witness_ClearResultsClears :
    linked.linkTakes = true ∧ linked.quiet = true ∧ inHalted.linkTakes = true ∧ inHalted.quiet = true ∧
      (running .paused .boundary linked).linkTakes = true ∧ (running .paused .boundary linked).quiet = false := by
  decide +kernel

theorem witness_ResetKeepsLinkAndEnlistment :
    (enlisted linked).linkTakes = true ∧ (enlisted linked).tie.enlistment = .enlisted := by decide +kernel

theorem witness_SetupWriteIsJudged :
    linked.linkTakes = true ∧ linked.quiet = true ∧ (running .paused .boundary linked).quiet = false ∧
      27 < (26 : Word).toNat + [(0 : Word), 0].length ∧ (26 : Word).toNat + [(0 : Word)].length ≤ 27 := by
  decide +kernel

/-- A SETUP_WRITE of the log mode alone, which empties the rings. -/
theorem witness_SetupWriteIsJudged_mode :
    after (.setupWrite 21 [1]) linked (fun t => t.setup.logMode != linked.setup.logMode) = true := by decide +kernel

/-- The words of a frame over every Setup word, and a single word at each end. -/
theorem witness_SetupWordsReadBack :
    linked.setup.InRange ∧ linked.linkTakes = true ∧ linked.quiet = true ∧
      (0 : Word).toNat + (List.replicate 27 (1 : Word)).length ≤ 27 ∧ (26 : Word).toNat + [(31 : Word)].length ≤ 27 ∧
      (∃ t, exec (.setupWrite 0 (List.replicate 27 1)) linked = .next t) ∧
      (∃ t, exec (.setupWrite 26 [31]) linked = .next t) ∧ (∃ t, exec (.setupWrite 15 [7]) linked = .next t) :=
  ⟨reset_setup_inRange, by decide +kernel, by decide +kernel, by decide +kernel, by decide +kernel,
    next_of_after (p := fun _ => true) (by decide +kernel), next_of_after (p := fun _ => true) (by decide +kernel),
    next_of_after (p := fun _ => true) (by decide +kernel)⟩

/-- An enable of a REJECTED site and a disable of an ACTIVE one that is a member of a search. -/
theorem witness_SiteCfgWriteActsOrRefuses :
    let s : State := { linked with
      sites := (linked.sites.set 3 { siteIn .rejected with reject := some { cause := .opFail, step := 2 } }).set 4
        (siteIn .active)
      search := some { search1 with members := 16, trialSet := 16 } }
    s.linkTakes = true ∧ s.quiet = true ∧ s.round = none ∧ (∀ i, (s.site i).state ≠ .waiting) ∧
      (6 : Word).toNat + [(1 : Word), 0, 0].length ≤ 64 ∧ [(1 : Word), 0, 0][2 * 3 - (6 : Word).toNat]? = some 1 ∧
      (s.site 3).state = .rejected ∧ [(1 : Word), 0, 0][2 * 4 - (6 : Word).toNat]? = some 0 ∧
      (s.site 4).state ≠ .off := by decide +kernel

theorem witness_SiteCfgWriteActsOrRefuses_ends :
    linked.linkTakes = true ∧ linked.quiet = true ∧ linked.round = none ∧ (∀ i, (linked.site i).state ≠ .waiting) ∧
      (0 : Word).toNat + (List.replicate 64 (1 : Word)).length ≤ 64 ∧ (63 : Word).toNat + [(7 : Word)].length ≤ 64 ∧
      64 < (63 : Word).toNat + [(7 : Word), 8].length := by decide +kernel

theorem witness_SiteCfgWriteActsOrRefuses_running :
    let s := running .running .rest linked
    s.linkTakes = true ∧ s.quiet = false ∧
      ((0 : Word).toNat ≤ 2 * (0 : SiteId).val ∧ [(1 : Word)][2 * (0 : SiteId).val - (0 : Word).toNat]? = some 1 ∧
        (1 : Word).getLsbD 0 = true ∧ (s.site 0).state = .off) ∧
      ((63 : Word).toNat ≤ 2 * (31 : SiteId).val + 1 ∧
        [(7 : Word)][2 * (31 : SiteId).val + 1 - (63 : Word).toNat]? = some 7 ∧ loByte 7 ≠ (s.site 31).trim) := by
  decide +kernel

theorem witness_DisableCutsSiteLoose :
    let s := inRound (.page readAt false) false .awaitReady .status
    s.linkTakes = true ∧ (2 : Word).getLsbD 0 = false ∧ s.othersWait 0 ∧
      (s.site 0).state = .waiting ∧ (s.ports.get 0).current = some { tx := .status, live := true } := by
  decide +kernel

/-- A site that is ACTIVE with no round in flight. -/
theorem witness_DisableCutsSiteLoose_noRound :
    let s := modifySite 31 (fun _ => siteIn .active) (running .running (.handOut none) linked)
    s.linkTakes = true ∧ s.round = none ∧ (s.site 31).state = .active := by decide +kernel

/-- A site whose port is taking the bytes of a PROGRAM. -/
theorem witness_DisableCutsSiteLoose_program :
    let s := inRound (.page programAt false) false .awaitReady (.program programAt [90, 90])
    s.linkTakes = true ∧ s.othersWait 0 ∧ (s.site 0).state = .waiting ∧
      (s.ports.get 0).current = some { tx := .program programAt [90, 90], live := true } := by decide +kernel

/-- A site that is ACTIVE outside the round. -/
theorem witness_DisableCutsSiteLoose_active :
    let s := modifySite 31 (fun _ => siteIn .active) (inRound (.page readAt false) false .awaitReady .status)
    s.linkTakes = true ∧ s.othersWait 31 ∧ (s.site 31).state = .active := by decide +kernel

theorem witness_PreloadAppendsOrRefuses :
    listed.linkTakes = true ∧ listed.quiet = true ∧ (3 : Fin 64).val = (listed.list 4).length ∧
      (3 : Fin 64).val + (List.replicate 61 (4095 : Word)).length ≤ 64 ∧
      (∀ w ∈ List.replicate 61 (4095 : Word), w.toNat ≤ 4095) ∧ (0 : Fin 64).val ≠ (listed.list 4).length ∧
      4095 < (4096 : Word).toNat :=
  ⟨by decide +kernel, by decide +kernel, by decide +kernel, by decide +kernel,
    fun w h => by rw [List.eq_of_mem_replicate h]; decide +kernel, by decide +kernel, by decide +kernel⟩

theorem witness_PreloadAppendsOrRefuses_layout :
    2080 < 64 * (31 : SiteId).val + (63 : Fin 64).val + (List.replicate 34 (0 : Word)).length ∧
      64 * (31 : SiteId).val + (63 : Fin 64).val + (List.replicate 33 (0 : Word)).length ≤ 2080 ∧
      64 < (63 : Fin 64).val + [(0 : Word), 0].length ∧ (running .paused .boundary listed).linkTakes = true ∧
      (running .paused .boundary listed).quiet = false := by decide +kernel

theorem witness_TruncationCutsLists :
    listed.linkTakes = true ∧ listed.quiet = true ∧ 32 < (31 : SiteId).val + [(0 : Word), 0].length ∧
      (31 : SiteId).val + [(0 : Word)].length ≤ 32 ∧ (running .paused .boundary listed).quiet = false ∧
      (∃ (j : SiteId) (w : Word), (4 : SiteId).val ≤ j.val ∧
        [(4 : Word)][j.val - (4 : SiteId).val]? = some w ∧ (listed.list j).length < w.toNat) ∧
      (∀ (j : SiteId) (w : Word), (4 : SiteId).val ≤ j.val → [(3 : Word)][j.val - (4 : SiteId).val]? = some w →
        w.toNat ≤ (listed.list j).length) := by
  refine ⟨by decide +kernel, by decide +kernel, by decide +kernel, by decide +kernel, by decide +kernel,
    ⟨4, 4, by decide +kernel, by decide +kernel, by decide +kernel⟩, fun j w h hw => ?_⟩
  have hj : j = 4 := by
    have hl := (List.getElem?_eq_some_iff.1 hw).1
    simp only [List.length_cons, List.length_nil] at hl
    exact Fin.ext (by omega)
  subst hj
  obtain rfl : w = 3 := by simpa using hw.symm
  decide +kernel

theorem witness_PlanWriteStoresWords :
    linked.linkTakes = true ∧ linked.quiet = true ∧ (running .paused .boundary linked).quiet = false ∧
      (4095 : Word).toNat + [(1 : Word)].length ≤ 4096 ∧ 4096 < (4095 : Word).toNat + [(1 : Word), 2].length := by
  decide +kernel

theorem witness_FilterWriteStoresFields :
    linked.linkTakes = true ∧ linked.quiet = true ∧ (running .paused .boundary linked).linkTakes = true ∧
      (running .paused .boundary linked).quiet = false := by decide +kernel

theorem witness_WriteGoesToItsArea :
    linked.linkTakes = true ∧ (2047 : Word).toNat = 64 * (31 : SiteId).val + (63 : Fin 64).val ∧
      (2079 : Word).toNat = 2048 + (31 : SiteId).val ∧ 2080 ≤ (2080 : Word).toNat ∧ (4127 : Word).toNat < 4128 ∧
      8 ≤ (8 : BitVec 4).toNat := by decide +kernel

theorem witness_DrainRemovesOldest :
    let s : State := { linked with setup := { linked.setup with logMode := .split } }
    linked.linkTakes = true ∧ linked.runner.state ≠ .logStall ∧ 1 < (2 : Word).toNat ∧
      linked.setup.logMode = .unified ∧ s.linkTakes = true ∧ s.runner.state ≠ .logStall ∧
      s.setup.logMode = .split := by decide +kernel

/-- A stalled runner, its ring at 1952 and at 1953 records: 32 removed leave 1920 and 1921. -/
theorem witness_DrainRemovesOldest_stalled :
    ∀ n, n = 1952 ∨ n = 1953 →
      let base := running .logStall .boundary linked
      let s : State := { base with
        runner := { base.runner with pendingPause := true }
        log := { base.log with ring0 := { base.log.ring0 with
          records := List.replicate n { sequence := 0, station := 0, body := .runStart } } } }
      (s.linkTakes = true ∧ s.runner.state = .logStall ∧ s.runner.point = .boundary ∧
        s.runner.pendingPause = true ∧ s.setup.logMode = .unified) ∧ s.log.ring0.records.length = n := by
  rintro n (rfl | rfl) <;> exact ⟨by decide +kernel, List.length_replicate⟩

theorem witness_EnlistOnceInIdle :
    linked.linkTakes = true ∧ linked.tie.lock = false ∧ linked.runner.state = .idle ∧ 1 < (2 : Word).toNat ∧
      (enlisted linked).linkTakes = true ∧ (enlisted linked).tie.lock = true ∧ (1 : Word).toNat ≤ 1 ∧
      (running .done .rest linked).linkTakes = true ∧ (running .done .rest linked).tie.lock = false ∧
      (running .done .rest linked).runner.state ≠ .idle := by decide +kernel

theorem witness_AckProbeAndUnknownFrame :
    linked.linkTakes = true ∧ linked.link.learned = some 40 ∧ 40 ≤ 2084 := by decide +kernel

/-- Receivers in UNLOCKED with no candidate, with one agreement short of the lock, and with fewer. -/
theorem witness_ReceiverLocksAndSettles :
    let s (n : Nat) : State := { State.reset with link := { Link.reset with candidate := some 400, agreement := n } }
    State.reset.link.receiver = .unlocked ∧ State.reset.link.candidate = none ∧ (s 1).link.receiver = .unlocked ∧
      (s 1).link.candidate = some 400 ∧ (s 1).link.agreement < 2 ∧ (s 2).link.receiver = .unlocked ∧
      (s 2).link.candidate = some 400 ∧ (s 2).link.agreement = 2 ∧ 398 + 1 < 400 ∧ 400 ≤ 399 + 1 ∧ 401 ≤ 400 + 1 ∧
      400 + 1 < 402 := by decide +kernel

theorem witness_ReceiverLocksAndSettles_settling :
    let s : State := { State.reset with link := { Link.reset with receiver := .settling } }
    s.link.receiver = .settling ∧ State.reset.link.receiver ≠ .settling ∧ linked.link.receiver ≠ .unlocked := by
  decide +kernel

theorem witness_BreaksErrorsAndResponseEnds :
    let cut : Response := { bytes := [0], cut := false, resetAfter := false }
    let s (r : Response) : State := { linked with link := { linked.link with response := some r } }
    linked.link.receiver = .ready ∧ linked.link.response = none ∧ State.reset.link.receiver = .unlocked ∧
      (s cut).link.response = some cut ∧ cut.resetAfter = false ∧
      (s { cut with resetAfter := true }).link.response = some { cut with resetAfter := true } := by decide +kernel

theorem witness_BytesJoinTheFrame :
    State.reset.linkTakes = false ∧ linked.linkTakes = true ∧
      ({ linked with link := { linked.link with frame := [112, 0] } } : State).link.frame.length < 3 := by
  decide +kernel

theorem witness_WriteFrameBytesAreTheCommand :
    linked.linkTakes = true ∧ linked.link.frame = [] ∧ 1 ≤ [(0 : Word)].length ∧
      (List.replicate 256 (0 : Word)).length ≤ 256 := by decide +kernel

theorem witness_ShortFrameBytesAreTheCommand :
    linked.linkTakes = true ∧ linked.link.frame = [] ∧ 8 ≤ (8 : Word).toNat := by decide +kernel

/-- READs of the last word of SETUP, of one word more, and of an area that is none. -/
theorem witness_ReadReturnsTheWords :
    let s (area index : Nat) : State :=
      { linked with link := { linked.link with frame := (frameBytes 2 area (toWord index) 1 []).take 3 } }
    (s 2 26).linkTakes = true ∧ (s 2 26).link.frame = (frameBytes 2 2 26 1 []).take 3 ∧ areaSize 2 = some 27 ∧
      (26 : Word).toNat + 1 ≤ 27 ∧ (s 2 27).link.frame = (frameBytes 2 2 27 1 []).take 3 ∧
      27 < (27 : Word).toNat + 1 ∧ areaSize 8 = none ∧ (s 8 0).link.frame = (frameBytes 2 8 0 1 []).take 3 := by
  decide +kernel

theorem witness_IssueAndPollTimers :
    ∀ tx, tx = .page readAt false ∨ tx = .program programAt [90, 90] →
      let w : RoundWork := .page (if tx = .page readAt false then readAt else programAt) false
      let s := inRound w false .awaitReady tx
      s.busy = false ∧ s.round = some { work := w, participants := 3, trial := false } ∧
        (s.site 0).state = .waiting ∧ s.ports.get 0 = { current := some { tx := tx, live := true }, queued := none } := by
  rintro tx (rfl | rfl) <;> decide +kernel

theorem witness_IssueAndPollTimers_expiry :
    let u : State := { linked with
      clocks := linked.clocks.set 1 { poll := some { limit := 5, elapsed := 5 }, deadline := none } }
    u.busy = false ∧ (u.clocks.get 1).poll = some { limit := 5, elapsed := 5 } ∧ (u.ports.get 1).current = none := by
  decide +kernel

/-- The values of a SETPARAM round. -/
def someValues : PerSite (Option Byte) := Table.replicate 32 (some 9)

theorem witness_SetparamIssueEndsPart :
    let s := inRound (.setparam 40 someValues) false .awaitReady (.setparam 40 9)
    s.round = some { work := .setparam 40 someValues, participants := 3, trial := false } ∧
      (s.site 0).state = .waiting ∧
      s.ports.get 0 = { current := some { tx := .setparam 40 9, live := true }, queued := none } ∧ s.othersWait 0 ∧
      s.stopSettled = true ∧ s.busy = false := by decide +kernel

/-- The last WAITING site of a SETPARAM round in HALTING. -/
def lastSetparam : State :=
  let s := modifySite 1 (fun _ => siteIn .active) (inRound (.setparam 40 someValues) false .awaitReady (.setparam 40 9))
  stopped .hostStop { s with runner := { s.runner with state := .halting, haltCause := some .hostStop } }

theorem witness_SetparamIssueEndsPart_halting :
    lastSetparam.round = some { work := .setparam 40 someValues, participants := 3, trial := false } ∧
      (lastSetparam.site 0).state = .waiting ∧
      lastSetparam.ports.get 0 = { current := some { tx := .setparam 40 9, live := true }, queued := none } ∧
      (∀ j, j ≠ 0 → (lastSetparam.site j).state ≠ .waiting) ∧ lastSetparam.stopSettled = true ∧
      lastSetparam.runner.state = .halting ∧ lastSetparam.runner.haltCause = some .hostStop := by decide +kernel

theorem witness_StatusReadsAreCounted :
    let s := inRound (.page readAt false) false .awaitReady .status
    s.round = some { work := .page readAt false, participants := 3, trial := false } ∧
      (s.site 0).state = .waiting ∧ (s.site 0).phase = some .awaitReady ∧
      s.ports.get 0 = { current := some { tx := .status, live := true }, queued := none } ∧
      s.busy = false ∧ ((0 : Byte) &&& s.setup.readyMask) ≠ s.setup.readyValue ∧ 0 ≠ s.setup.matchCount := by
  decide +kernel

theorem witness_ReadySitesGoOn :
    ∀ p, p = readAt ∨ p = programAt →
      let s := inRound (.page p false) false .awaitReady .status
      s.round = some { work := .page p false, participants := 3, trial := false } ∧ (s.site 0).state = .waiting ∧
        (s.site 0).phase = some .awaitReady ∧
        s.ports.get 0 = { current := some { tx := .status, live := true }, queued := none } ∧
        ((128 : Byte) &&& s.setup.readyMask) = s.setup.readyValue ∧
        (s.site 0).runCount + 1 = s.setup.matchCount ∧ ((128 : Byte) &&& s.setup.failMask) = 0 ∧ s.othersWait 0 ∧
        s.stopSettled = true ∧ s.busy = false := by
  rintro p (rfl | rfl) <;> decide +kernel

theorem witness_ReadySitesGoOn_poll :
    let s := inRound (.poll 64 64 2 100) false .awaitReady .status
    s.round = some { work := .poll 64 64 2 100, participants := 3, trial := false } ∧
      (s.site 0).state = .waiting ∧ (s.site 0).phase = some .awaitReady ∧
      s.ports.get 0 = { current := some { tx := .status, live := true }, queued := none } ∧
      ((64 : Byte) &&& 64) = 64 ∧ (s.site 0).runCount + 1 = 2 ∧ s.othersWait 0 ∧ s.stopSettled = true ∧
      s.busy = false := by decide +kernel

/-- The last WAITING site of a PROGRAM round at a pair of a sweep, the first or the last of its rectangle. -/
def lastOfRound (p : Position) : State :=
  let s := modifySite 1 (fun _ => siteIn .active) (inRound (.page p false) false .awaitReady .status)
  { s with sweep := some { fields := { randomSweep with visitListed := true }, position := some p, successor := none } }

theorem witness_ReadySitesGoOn_last :
    ∀ p : Position, p = { programAt with block := 0, page := some 0 } ∨ p = { programAt with block := 3, page := some 1 } →
      let s := lastOfRound p
      let f : SweepFields := { randomSweep with visitListed := true }
      s.round = some { work := .page p false, participants := 3, trial := false } ∧ p.kind ≠ .read ∧
        (s.site 0).state = .waiting ∧ (s.site 0).phase = some .awaitReady ∧
        s.ports.get 0 = { current := some { tx := .status, live := true }, queued := none } ∧
        ((128 : Byte) &&& s.setup.readyMask) = s.setup.readyValue ∧
        (s.site 0).runCount + 1 = s.setup.matchCount ∧ ((128 : Byte) &&& s.setup.failMask) = 0 ∧
        (∀ j, j ≠ 0 → (s.site j).state ≠ .waiting) ∧ s.tie.stop = none ∧ s.runner.state = .running ∧
        s.runner.point = .inRound .sweep ∧ s.sweep = some { fields := f, position := some p, successor := none } ∧
        s.search = none ∧ s.headroomShort = false ∧ s.runner.stepIndex < 255 ∧
        (successorOf f p).isSome = (p.block == 0) := by
  rintro p (rfl | rfl) <;> decide +kernel

/-- A PROGRAM round whose site 0 fails with the next status byte 129: with the given list, masks and filter 1. -/
def programmed (list : List Entry) (siteStop mainframeStop : CondSet) (action : Action) : State :=
  let s := inRound (.page programAt false) false .awaitReady .status
  { s with
    lists := s.lists.set 0 list
    setup := { s.setup with siteStop := siteStop, mainframeStop := mainframeStop, listLimit := 1 }
    filters := s.filters.set 1 { Filter.reset with enabled := action != .log, sites := 1, action := action } }

theorem programmed_fails (list : List Entry) (siteStop mainframeStop : CondSet) (action : Action) :
    (programmed list siteStop mainframeStop action).FailsNext 0 programAt 129 :=
  { round := ⟨_, _, rfl, rfl, rfl⟩
    kind := by decide
    waiting := by constructor <;> rfl
    port := rfl
    ready := ⟨(by decide : (129 : Byte) &&& 128 = 128), rfl⟩
    failed := (by decide : (129 : Byte) &&& 1 ≠ 0)
    others := ⟨1, by decide, rfl⟩
    settled := by constructor <;> rfl }

/-- An entry of block 2, and one of block 9. -/
def entryOf (block : Nat) : Entry := { block := block, found := none }

/-- The block listed, not listed below the limit of 1, and not listed at it, with BAD_LIMIT in the site-stop mask or
not. -/
theorem witness_OpFailureIsHandled :
    (programmed [entryOf 2] 0 0 .log).logsByDefault ∧ (programmed [entryOf 2] 0 0 .log).unmasked .opFail ∧
      ((programmed [entryOf 2] 0 0 .log).list 0).map Entry.block = [programAt.block] ∧
      ((programmed [] 0 0 .log).list 0).length < (programmed [] 0 0 .log).setup.listLimit ∧
      (programmed [entryOf 9] 16 0 .log).unmasked .opFail ∧
      (programmed [entryOf 9] 16 0 .log).setup.listLimit ≤ ((programmed [entryOf 9] 16 0 .log).list 0).length ∧
      (programmed [entryOf 9] 16 0 .log).setup.mainframeStop.has .badLimit = false ∧
      (programmed [entryOf 9] 16 0 .log).setup.siteStop.has .badLimit = true ∧
      (programmed [entryOf 9] 0 0 .log).setup.siteStop.has .badLimit = false := by decide +kernel

theorem witness_OpFailureIsHandled_stops :
    ∀ mask, mask = 0 ∨ mask = 4 →
      let s := programmed [entryOf 2] mask 4 .log
      s.logsByDefault ∧ s.runsFreely ∧ s.setup.freeze = false ∧ s.setup.mainframeStop.has .opFail = true ∧
        s.setup.siteStop.has .opFail = (mask == 4) := by
  rintro mask (rfl | rfl) <;> decide +kernel

theorem witness_OpFailureIsHandled_filters :
    ∀ action, action = .ignore ∨ action = .rejectSite ∨ action = .stopAll →
      let s := programmed [entryOf 2] 0 0 action
      decidingFilter s.filters 0 programAt.block programAt.page 0 = some 1 ∧ (s.filters.get 1).action = action ∧
        s.unmasked .opFail ∧ s.runsFreely ∧ s.setup.freeze = false := by
  rintro action (rfl | rfl | rfl) <;> decide +kernel

theorem witness_DeadlineRaisesReadyTimeout :
    ∀ mask, mask = 0 ∨ mask = 56 →
      let base := inRound (.page readAt false) false .awaitReady .status
      let s : State := { base with setup := { base.setup with siteStop := mask } }
      s.round = some { work := .page readAt false, participants := 3, trial := false } ∧
        (s.clocks.get 0).deadline = some { limit := 200, elapsed := 40 } ∧ (s.site 0).state = .waiting ∧
        s.setup.mainframeStop.has .readyTimeout = false ∧ s.othersWait 0 ∧ s.stopSettled = true ∧
        s.busy = false ∧ s.setup.siteStop.has .readyTimeout = (mask == 56) := by
  rintro mask (rfl | rfl) <;> decide +kernel

/-- The first and the last byte of a page. -/
theorem witness_ReadByteIsTallied :
    ∀ taken, taken = 0 ∨ taken = 4095 →
      let s := inData false taken [0, 0, 0, 0]
      s.tallies.get 0 = some { block := 2, page := 1, trialCode := none, taken := taken, sums := [0, 0, 0, 0] } ∧
        s.sweep = some { fields := solidSweep, position := some readAt, successor := none } ∧
        taken < s.setup.pageBytes ∧ (s.ports.get 0).current = some { tx := .readData readAt, live := true } := by
  rintro taken (rfl | rfl) <;> decide +kernel

/-- A data part that has taken its last byte, with the given tallies, list and list limit 1. -/
def readOut (sums : List Nat) (list : List Entry) (defaultLog : Bool) : State :=
  let s := inData false 4096 sums
  { s with
    lists := s.lists.set 0 list
    setup := { s.setup with siteStop := 0, listLimit := 1, defaultLog := defaultLog } }

theorem readOut_read (sums : List Nat) (list : List Entry) (defaultLog : Bool) :
    (readOut sums list defaultLog).PageIsRead 0 readAt 1
      { block := 2, page := 1, trialCode := none, taken := 4096, sums := sums } :=
  { round := ⟨_, _, rfl, rfl, rfl⟩
    kind := by constructor <;> rfl
    waiting := rfl
    tally := by constructor <;> rfl
    port := rfl
    others := ⟨1, by decide, rfl⟩
    settled := rfl }

/-- A clean page, a page with a tally at the threshold of 40, one with a tally above it at a listed block, below the
limit and at it, and one with IGNORE as the default. -/
theorem witness_DataPartEndFormsOutcome :
    (∀ n ∈ [0, 0, 0, 0], n = 0) ∧ (∃ n ∈ [40, 3, 0, 0], 0 < n) ∧ (∀ n ∈ [40, 3, 0, 0], n ≤ Setup.reset.threshold) ∧
      (∃ n ∈ [41, 3, 0, 0], (readOut [41, 3, 0, 0] [] true).setup.threshold < n) ∧
      (readOut [41, 3, 0, 0] [] true).logsByDefault ∧ (readOut [41, 3, 0, 0] [] true).unmasked .dataFail ∧
      (readOut [41, 3, 0, 0] [] true).unmasked .pageFail ∧ (readOut [41, 3, 0, 0] [] true).unmasked .badLimit ∧
      ((readOut [41, 3, 0, 0] [] true).list 0).length < (readOut [41, 3, 0, 0] [] true).setup.listLimit ∧
      ((readOut [41, 3, 0, 0] [entryOf 2] true).list 0).map Entry.block = [readAt.block] ∧
      (readOut [41, 3, 0, 0] [entryOf 9] true).setup.listLimit ≤
        ((readOut [41, 3, 0, 0] [entryOf 9] true).list 0).length ∧
      (∀ f, ((readOut [41, 3, 0, 0] [] false).filters.get f).enabled = false) ∧
      (readOut [41, 3, 0, 0] [] false).setup.defaultLog = false := by decide +kernel

theorem witness_TrialEventsOnlyFlag :
    let s : State := { inData true 4096 [41, 0, 0, 0] with search := some { search1 with phase := .body } }
    s.round = some { work := .page readAt false, participants := 3, trial := true } ∧ readAt.kind = .read ∧
      s.search = some { search1 with phase := .body } ∧ search1.fields.logTrials = false ∧
      (s.site 0).state = .waiting ∧
      s.tallies.get 0 = some { block := 2, page := 1, trialCode := none, taken := 4096, sums := [41, 0, 0, 0] } ∧
      4096 = s.setup.pageBytes ∧
      s.ports.get 0 = { current := some { tx := .readData readAt, live := true }, queued := none } ∧
      (∀ f, (s.filters.get f).enabled = false) ∧ s.setup.defaultLog = true ∧ s.othersWait 0 ∧
      s.stopSettled = true := by decide +kernel

/-- A port with a discarded transaction and another queued behind it. -/
def discarded (tx : Tx) (queued : Option Tx) (s : State) : State :=
  { s with ports := s.ports.set 3 { current := some { tx := tx, live := false }, queued := queued } }

theorem witness_DiscardedTransactionEnds :
    let program : Tx := .program programAt [90, 90]
    ((discarded .status (some program) linked).ports.get 3).current = some { tx := .status, live := false } ∧
      ((discarded program none linked).ports.get 3).current = some { tx := program, live := false } ∧
      ((discarded program none linked).ports.get 3).queued = none ∧
      ((discarded program (some program) linked).ports.get 3).queued = some program ∧
      (discarded program none linked).inPollRound = false ∧
      (discarded program (some .status) (inRound (.poll 64 64 2 100) false .awaitReady .status)).inPollRound = true ∧
      ((discarded program (some .status) (inRound (.poll 64 64 2 100) false .awaitReady .status)).ports.get 3).queued =
        some .status := by decide +kernel

theorem witness_DiscardedTransactionEnds_none (c : Carried) (h : (linked.ports.get 2).current = some c) :
    c.live = true := by
  have hn : (linked.ports.get 2).current = none := by decide +kernel
  exact absurd (hn.symm.trans h) (by simp)

/-- Barrier 65535 of each kind, with the mark-record flag set and clear. -/
theorem witness_BarrierPassesOnRise :
    linked.busy = false ∧ linked.tie.wait = none ∧
      ∀ kind, kind = .start ∨ kind = .rendezvous → ∀ record : Bool,
        let base := atBarrier kind .even 65535
        let s : State := { base with setup := { base.setup with markRecord := record } }
        s.tie.wait = some { kind := kind, line := .even, waited := 0 } ∧ s.runner.state = .atMark ∧
          s.tie.enlistment = .enlisted ∧ s.search = none ∧ s.runner.stepIndex < 255 ∧ s.setup.markRecord = record ∧
          s.tie.stop = none ∧ s.runner.roundInFlight = false := by
  refine ⟨by decide +kernel, by decide +kernel, ?_⟩
  rintro kind (rfl | rfl) <;> decide +kernel

/-- Trials 1 and 3 of three bits and the extra one, with r at 0, 6 and 7: a further trial, an end of the search, and both
after trial 3; with a member left and with none. -/
theorem witness_TrialBarrierMovesValue :
    ∀ at_, at_ = (1, 0) ∨ at_ = (3, 6) ∨ at_ = (4, 7) → ∀ members, members = (0 : SiteSet) ∨ members = 1 →
      let c : Search := { search1 with trial := at_.1, stationValue := at_.2, members := members }
      let s : State := { atBarrier .trial .odd 1 with search := some c }
      s.tie.wait = some { kind := .trial, line := .odd, waited := 0 } ∧ s.runner.state = .atMark ∧
        s.tie.enlistment = .enlisted ∧ s.search = some c ∧ c.fields.scope = .mainframe ∧
        c.step + c.fields.body < 255 := by
  rintro at_ (rfl | rfl | rfl) members (rfl | rfl) <;> decide +kernel

/-- A search of three bits over sites 0 and 1, in either scope, whose body is the POLL step 1. -/
def searching (scope : Scope) (trial : Nat) (values : Nat) (point : Point) : State :=
  let s := running .running point linked
  let c : Search := { search1 with
    fields := { search1.fields with scope := scope }, members := 3, trialSet := 3, trial := trial, phase := .body
    values := Table.replicate 32 values, stationValue := values }
  { s with
    runner := { s.runner with stepIndex := 1 }
    plan := storePlan s.plan 16 [0x0200, 0, 0x4040, 1, 0, 100]
    sites := (s.sites.set 0 { siteIn .active with trialFailed := true }).set 1 (siteIn .active)
    search := some c }

/-- A trial of the first three and the extra one begin, in each scope. -/
theorem witness_TrialBarrierMovesValue_begins :
    ∀ scope, scope = .site ∨ scope = .mainframe → ∀ trial, trial = 3 ∨ trial = 4 →
      let s := searching scope trial 6 .begin
      s.pending = [] ∧ s.runner.state = .running ∧ s.runner.point = .begin ∧
        s.search.map (fun c => (c.phase, c.fields.scope, c.trial, s.runner.stepIndex == c.step + 1)) =
          some (.body, scope, trial, true) ∧
        stepAt s.plan s.runner.stepIndex = some { note := false, label := 0, body := .poll 64 64 1 100 } := by
  rintro scope (rfl | rfl) trial (rfl | rfl) <;> decide +kernel

/-- The close of a trial of MAINFRAME scope, at an enlisted station and at another, with a member left. -/
theorem witness_TrialBarrierMovesValue_votes :
    ∀ trial, trial = 1 ∨ trial = 4 →
      let s := searching .mainframe trial 6 .close
      s.pending = [] ∧ s.runner.state = .running ∧ s.runner.point = .close ∧ s.headroomShort = false ∧
        s.search.map (fun c => (c.fields.scope, c.trial, c.members.has 0)) = some (.mainframe, trial, true) ∧
        s.tie.enlistment ≠ .enlisted ∧ (enlisted s).headroomShort = false ∧ (enlisted s).pending = [] ∧
        (enlisted s).runner.point = .close ∧ (enlisted s).tie.enlistment = .enlisted := by
  rintro trial (rfl | rfl) <;> decide +kernel

/-- The close of trial 2, and of trial 3 with site 0 failing from value 6 to 7. -/
theorem witness_TrialBarrierMovesValue_closes :
    ∀ trial, trial = 2 ∨ trial = 3 →
      let s := searching .site trial 6 .close
      s.pending = [] ∧ s.runner.state = .running ∧ s.runner.point = .close ∧ s.headroomShort = false ∧
        s.search.map (fun c => (c.fields.scope, c.trial, c.fields.bits, c.members.has 0, c.trialSet.has 0)) =
          some (.site, trial, 3, true, true) ∧
        (s.site 0).trialFailed = true ∧ 6 + 2 ^ (3 - 3) = 2 ^ 3 - 1 := by
  rintro trial (rfl | rfl) <;> decide +kernel

theorem witness_RendezvousTimeoutHaltsAtMark :
    let s := atBarrier .rendezvous .even 2
    linked.busy = false ∧ linked.tie.timer = none ∧ s.tie.timer = some 0 ∧ s.runner.state = .atMark ∧ s.tie.ownPull = none ∧
      s.tie.stop = none := by decide +kernel

theorem witness_StopFollowsTheLine :
    let s := inRound (.page readAt false) false .awaitReady .status
    (stopped .hostStop linked).tie.stop.isSome = true ∧ s.tie.stop = none ∧ s.runner.state = .running ∧
      s.runner.roundInFlight = true ∧ linked.tie.ownPull = none ∧
      ({ linked with tie := { linked.tie with ownPull := some .hostStop } } : State).tie.ownPull.isSome = true := by
  decide +kernel

/-- Every state of the runner, with no stop in force and no round in flight. -/
theorem witness_StopFollowsTheLine_states (x : RunState) :
    (running x .boundary linked).tie.stop = none ∧ (running x .boundary linked).runner.state = x ∧
      (running x .boundary linked).runner.roundInFlight = false ∧
      (∀ held, (running x .boundary linked).runner.point ≠ .handOut held) :=
  ⟨rfl, rfl, rfl, fun _ h => by cases h⟩

/-- The results of a search are handed out, a stop held or not. -/
theorem witness_StopFollowsTheLine_handOut (held : Option HaltCause) :
    let s := running .running (.handOut held) linked
    s.tie.stop = none ∧ s.runner.state = .running ∧ s.runner.roundInFlight = false ∧
      s.runner.point = .handOut held := ⟨rfl, rfl, rfl, rfl⟩

theorem witness_SweepVisitsEveryPairOnce :
    ∀ op, op = .erase ∨ op = .program ∨ op = .verify ∨ op = .programVerify →
      let f : SweepFields := { solidSweep with op := op }
      f.firstBlock ≤ f.lastBlock ∧ f.firstPage ≤ f.lastPage ∧ f.op = op := by
  rintro op (rfl | rfl | rfl | rfl) <;> decide +kernel

theorem witness_StreamBytesFollowThePattern : 0 < 4096 ∧ 4095 < 4096 := by decide +kernel

/-- The close of trial 3 with every member below 7, and of the extra trial: site 0 at 7 fails it, site 1 passes it. -/
theorem witness_SearchFindsTheBoundary :
    ∀ at_, at_ = (3, 2) ∨ at_ = (4, 7) →
      let s := searching .site at_.1 at_.2 .close
      let u : State := { s with setup := { s.setup with siteStop := 0 } }
      u.pending = [] ∧ u.runner.state = .running ∧ u.runner.point = .close ∧ u.headroomShort = false ∧
        u.search.map (fun c => (c.fields.scope, c.trial, c.members.has 1)) = some (.site, at_.1, true) ∧
        u.tie.stop = none ∧ u.unmasked .searchOpen ∧ (u.site 1).trialFailed = false ∧
        2 + 2 ^ (3 - 3) ≠ 2 ^ 3 - 1 := by
  rintro at_ (rfl | rfl) <;> decide +kernel

/-- The handing out of the results none for site 0 and `code` for site 1, still to come at some of the sites, with a stop
held or not, and the conditions of both stop masks. -/
def handing (outstanding : SiteSet) (held : Option HaltCause) (mask : CondSet) (code : Option Nat) : State :=
  let s := searching .site 4 7 (.handOut held)
  { s with
    setup := { s.setup with siteStop := mask, mainframeStop := mask }
    tie := { s.tie with stop := held, reported := true, peerStop := held.isSome }
    search := s.search.map fun c =>
      { c with phase := .final, outstanding := outstanding, results := c.results.set 1 code } }

/-- Site 0 first of two and alone, site 1 alone; no mask or both with SEARCH_OPEN; a stop held or not; some result present
or none. -/
theorem witness_SearchFindsTheBoundary_piece :
    ∀ at_, at_ = ((3 : SiteSet), (0 : SiteId)) ∨ at_ = (1, 0) ∨ at_ = (2, 1) →
      ∀ mask, mask = (0 : CondSet) ∨ mask = 32 → ∀ held, held = none ∨ held = some .peerStop →
      ∀ code, code = none ∨ code = some 3 →
      let s := handing at_.1 held mask code
      s.pending = [] ∧ s.runner.state = .running ∧ s.runner.point = .handOut held ∧ s.stopSettled = true ∧
        s.runner.roundInFlight = false ∧ (s.site 0).state = .active ∧
        s.search.map (fun c => (c.outstanding.has at_.2, c.results.get 0, c.results.get 1, c.step + c.fields.body)) =
          some (true, none, code, 1) ∧
        ∀ j, at_.1.has j = true → at_.2 ≤ j := by
  rintro at_ (rfl | rfl | rfl) mask (rfl | rfl) held (rfl | rfl) code (rfl | rfl) <;> decide +kernel

/-- R80, R118, R120: site 0 is disabled after the results are formed and before its handling: its result is written, its
record offered and SEARCH_OPEN raised at an OFF site, which is not rejected though the mask holds the condition. -/
theorem test_disable_before_the_handling :
    (execAll [.siteCfgWrite 0 [0]] (handing 3 none 32 (some 3))).map (fun t =>
      ((t.site 0).state, (advance t).log.ring0.records.length, ((advance t).site 0).current,
        ((advance t).site 0).state)) = some (.off, 1, 32, .off) := by decide +kernel

/-- R121: a stop that comes between two sites' handlings halts the runner after the last of them. -/
theorem test_stop_waits_for_the_handlings :
    (execAll [.stopFall] (handing 3 none 0 (some 3))).map (fun t =>
      (t.runner.state, (advance t).runner.state, (advance (advance t)).runner.state,
        ((advance (advance t)).site 1).result)) = some (.running, .running, .halted, some 3) := by decide +kernel

theorem witness_OutcomeFollowsTallies : [0, 41, 40] ≠ [] := by decide +kernel

end Sys2Proof.Tests
end

section
/-! SUPPORT. What a request does once the Link Port takes it, the log after an offer, and the runner's work counted in
pieces. -/
namespace Sys2Proof.Machine

/-! ## Taken requests -/

theorem onRequest_of_takes {s : State} (h : s.linkTakes = true) (op : State → State) : onRequest op s = op s := by
  simp [onRequest, h]

theorem exec_start {s : State} (h : s.linkTakes = true) : exec .start s = .next (startRequest s) :=
  congrArg Host.Outcome.next (onRequest_of_takes h _)

theorem exec_pause {s : State} (h : s.linkTakes = true) : exec .pause s = .next (pauseRequest s) :=
  congrArg Host.Outcome.next (onRequest_of_takes h _)

theorem exec_stepRun {s : State} (h : s.linkTakes = true) : exec .stepRun s = .next (stepRequest s) :=
  congrArg Host.Outcome.next (onRequest_of_takes h _)

theorem exec_resume {s : State} (h : s.linkTakes = true) : exec .resume s = .next (resumeRequest s) :=
  congrArg Host.Outcome.next (onRequest_of_takes h _)

theorem exec_abort {s : State} (h : s.linkTakes = true) : exec .abort s = .next (abortRequest s) :=
  congrArg Host.Outcome.next (onRequest_of_takes h _)

theorem exec_stopAll {s : State} (h : s.linkTakes = true) : exec .stopAll s = .next (stopAllRequest s) :=
  congrArg Host.Outcome.next (onRequest_of_takes h _)

theorem exec_clearResults {s : State} (h : s.linkTakes = true) :
    exec .clearResults s = .next (clearResultsRequest s) :=
  congrArg Host.Outcome.next (onRequest_of_takes h _)

theorem exec_reset {s : State} (h : s.linkTakes = true) : exec .reset s = .next (resetRequest s) :=
  congrArg Host.Outcome.next (onRequest_of_takes h _)

theorem exec_write {s : State} (h : s.linkTakes = true) (area : BitVec 4) (index : Word) {words : List Word}
    (h1 : 1 ≤ words.length) (h2 : words.length ≤ 256) :
    exec (.write area index words) s = .next (writeRequest area.toNat index words s) := by
  simp [exec, execWrite, frameCountOk, h1, h2, onRequest_of_takes h]

theorem exec_drain {s : State} (h : s.linkTakes = true) (ring : Word) {count : Nat} (h1 : 1 ≤ count)
    (h2 : count ≤ 256) : exec (.drain ring count) s = .next (drainRequest ring count s) := by
  simp [exec, execDrain, frameCountOk, h1, h2, onRequest_of_takes h]

/-! ## The log after an offer -/

/-- What the log becomes by an offer depends on the log, the Setup fields and the station number only. -/
theorem offer_log_congr (b : RecordBody) {s t : State} (hlog : s.log = t.log) (hsetup : s.setup = t.setup)
    (hstation : s.tie.station = t.tie.station) : (offer b s).log = (offer b t).log := by
  simp only [offer, ← hlog, ← hsetup, ← hstation]
  split
  · exact hlog
  · split <;> split <;> simp [setCause, hlog]

/-- An offer leaves the frozen state as it was. -/
@[simp] theorem offer_log_frozen (b : RecordBody) (s : State) : (offer b s).log.frozen = s.log.frozen := by
  rcases offer_cases b s with ⟨_, h⟩ | ⟨_, _, _, ⟨_, h⟩ | ⟨_, h⟩⟩ <;> rw [h]

/-- A ring's newest record is the one just stored. -/
theorem Ring.store_newest (r : Ring) (capacity : Nat) (station : BitVec 4) (b : RecordBody) :
    ((r.store capacity station b).records.getLast?).map LogRecord.body = some b := by
  unfold Ring.store
  dsimp only
  split <;> simp

/-- The newest record of the ring that event records go to, after one has been offered to a log that is not frozen
(R144, R145). -/
theorem offer_newest {b : RecordBody} (hb : ∀ r, b ≠ .pageFail r) {s : State} (h : s.log.frozen = false) :
    ((if s.setup.logMode = .unified then (offer b s).log.ring0 else (offer b s).log.ring1).records.getLast?).map
      LogRecord.body = some b := by
  have ring1 : goesToRing1 .split b = true := by cases b <;> simp_all [goesToRing1]
  rcases offer_cases b s with ⟨hf, _⟩ | ⟨_, _, _, ⟨hr, e⟩ | ⟨hr, e⟩⟩
  · simp [h] at hf
  · have hm : s.setup.logMode ≠ .unified := fun hm => by simp [hm, goesToRing1] at hr
    rw [e, if_neg hm]
    exact Ring.store_newest ..
  · have hm : s.setup.logMode = .unified := by
      cases hm : s.setup.logMode with
      | unified => rfl
      | split => rw [hm, ring1] at hr; cases hr
    rw [e, if_pos hm]
    exact Ring.store_newest ..

/-! ## Attention causes -/

@[simp] theorem hasCause_setCause (a : Attention) (s : State) : (setCause a s).hasCause a = true := by
  cases a <;> simp [State.hasCause, setCause, Attention.bit]

/-! ## Entering HALTED and DONE -/

/-- Entering HALTED, the log and the causes apart (R18, R129). -/
theorem enterHalted_eq (cause : Option HaltCause) (s : State) : enterHalted cause s =
    { s with
      runner := { s.runner with state := .halted, haltCause := s.runner.haltCause <|> cause, pendingPause := false,
                                singleStep := false, point := .rest }
      tie := s.tie.quiet
      log := (enterHalted cause s).log
      link := { s.link with causes := (enterHalted cause s).link.causes } } := by
  obtain ⟨log, causes, h⟩ := enterHalted_frame cause s
  rw [h]

/-- What entering HALTED leaves as it was (R18). -/
theorem enterHalted_changes (cause : Option HaltCause) (s : State) : enterHalted cause s =
    { s with
      runner := (enterHalted cause s).runner
      tie := (enterHalted cause s).tie
      log := (enterHalted cause s).log
      link := { s.link with causes := (enterHalted cause s).link.causes } } := by
  obtain ⟨log, causes, h⟩ := enterHalted_frame cause s
  rw [h]

@[simp] theorem enterHalted_runner (cause : Option HaltCause) (s : State) : (enterHalted cause s).runner =
    { s.runner with state := .halted, haltCause := s.runner.haltCause <|> cause, pendingPause := false
                    singleStep := false, point := .rest } := by
  rw [enterHalted_eq]

@[simp] theorem enterHalted_tie (cause : Option HaltCause) (s : State) :
    (enterHalted cause s).tie = s.tie.quiet := by rw [enterHalted_eq]

@[simp] theorem enterHalted_round (cause : Option HaltCause) (s : State) :
    (enterHalted cause s).round = s.round := by rw [enterHalted_eq]

@[simp] theorem enterHalted_sites (cause : Option HaltCause) (s : State) :
    (enterHalted cause s).sites = s.sites := by rw [enterHalted_eq]

/-- Entering HALTED sets the cause HALTED (R18). -/
theorem enterHalted_hasCause (cause : Option HaltCause) (s : State) :
    (enterHalted cause s).hasCause .halted = true := by
  unfold enterHalted
  dsimp only
  rw [freezeNotice_eq]
  exact hasCause_setCause .halted _

/-- Entering HALTED offers its record, and freezes the log when the freeze flag is set (R18, R149). -/
theorem enterHalted_log (cause : Option HaltCause) (s : State) : (enterHalted cause s).log =
    { (offer (.halted (s.runner.haltCause <|> cause) s.runner.stepIndex s.tie.barrier) s).log with
      frozen := s.log.frozen || s.setup.freeze } := by
  have same := offer_log_congr (.halted (s.runner.haltCause <|> cause) s.runner.stepIndex s.tie.barrier)
    (s := { s with
      runner := { s.runner with state := .halted, haltCause := s.runner.haltCause <|> cause, pendingPause := false,
                                singleStep := false, point := .rest }
      tie := s.tie.quiet }) (t := s) rfl rfl rfl
  unfold enterHalted
  dsimp only
  rw [freezeNotice_eq, ← same]
  simp [setCause, Tie.quiet]

/-- The newest record after a halt is its own, unless the log was frozen (R18, R149). -/
theorem enterHalted_newest (cause : Option HaltCause) {s : State} (h : s.log.frozen = false) :
    ((if s.setup.logMode = .unified then (enterHalted cause s).log.ring0
      else (enterHalted cause s).log.ring1).records.getLast?).map LogRecord.body =
      some (.halted (enterHalted cause s).runner.haltCause s.runner.stepIndex s.tie.barrier) := by
  rw [enterHalted_log, enterHalted_runner]
  exact offer_newest (by simp) h

/-- Entering DONE, the log and the causes apart (R13, R129). -/
theorem enterDone_eq (way : EndWay) (s : State) : enterDone way s =
    { s with
      runner := { s.runner with state := .done, pendingPause := false, singleStep := false, repeatContext := none,
                                point := .rest }
      tie := s.tie.quiet
      log := (enterDone way s).log
      link := { s.link with causes := (enterDone way s).link.causes } } := by
  obtain ⟨log, causes, h⟩ := enterDone_frame way s
  rw [h]

/-- What entering DONE leaves as it was (R13). -/
theorem enterDone_changes (way : EndWay) (s : State) : enterDone way s =
    { s with
      runner := (enterDone way s).runner
      tie := (enterDone way s).tie
      log := (enterDone way s).log
      link := { s.link with causes := (enterDone way s).link.causes } } := by
  obtain ⟨log, causes, h⟩ := enterDone_frame way s
  rw [h]

@[simp] theorem enterDone_runner (way : EndWay) (s : State) : (enterDone way s).runner =
    { s.runner with state := .done, pendingPause := false, singleStep := false, repeatContext := none
                    point := .rest } := by
  rw [enterDone_eq]

@[simp] theorem enterDone_tie (way : EndWay) (s : State) : (enterDone way s).tie = s.tie.quiet := by
  rw [enterDone_eq]

@[simp] theorem enterDone_sites (way : EndWay) (s : State) : (enterDone way s).sites = s.sites := by
  rw [enterDone_eq]

@[simp] theorem enterDone_link_response (way : EndWay) (s : State) :
    (enterDone way s).link.response = s.link.response := by rw [enterDone_eq]

/-- Entering DONE sets the cause RUN_ENDED (R13). -/
theorem enterDone_hasCause (way : EndWay) (s : State) : (enterDone way s).hasCause .runEnded = true :=
  hasCause_setCause .runEnded _

/-- Entering DONE offers its record (R13). -/
theorem enterDone_log (way : EndWay) (s : State) :
    (enterDone way s).log = (offer (.runEnd s.runner.stepIndex way) s).log :=
  offer_log_congr (.runEnd s.runner.stepIndex way) (t := s) rfl rfl rfl

/-- The newest record after the end of a run is its own, unless the log is frozen (R13). -/
theorem enterDone_newest (way : EndWay) {s : State} (h : s.log.frozen = false) :
    ((if s.setup.logMode = .unified then (enterDone way s).log.ring0
      else (enterDone way s).log.ring1).records.getLast?).map LogRecord.body =
      some (.runEnd s.runner.stepIndex way) := by
  rw [enterDone_log]
  exact offer_newest (by simp) h

/-! ## The runner's work in pieces -/

/-- `t` comes of `s` by `n` pieces of the runner's work. -/
inductive Works : Nat → State → State → Prop where
  | done (s : State) : Works 0 s s
  | piece {n : Nat} {s t : State} (busy : s.busy = true) (rest : Works n (advance s) t) : Works (n + 1) s t

theorem Works.trans {m n : Nat} {s t u : State} (h : Works m s t) (g : Works n t u) : Works (n + m) s u := by
  induction h with
  | done s => exact g
  | piece busy _ ih => exact .piece busy (ih g)

theorem Works.one {s t : State} (busy : s.busy = true) (h : advance s = t) : Works 1 s t :=
  h ▸ .piece busy (.done _)

/-- The work within a bound that is long enough. -/
theorem settleWithin_of_works {n : Nat} {s t : State} (h : Works n s t) (ht : t.busy = false) (k : Nat) :
    settleWithin (n + k) s = t := by
  induction h with
  | done s => exact settleWithin_of_not_busy ht _
  | piece busy _ ih =>
    rw [Nat.add_right_comm, settleWithin_succ_of_busy busy]
    exact ih ht

/-- The runner's work is its pieces until it waits. -/
theorem settle_of_works {n : Nat} {s t : State} (h : Works n s t) (ht : t.busy = false) (hn : n ≤ 2 ^ 64) :
    settle s = t := by
  have := settleWithin_of_works h ht (2 ^ 64 - n)
  rwa [Nat.add_sub_cancel' hn] at this

end Sys2Proof.Machine
end

section
/-! PROOFS. The state after reset, and the commands whose effect is one update of the state. -/
namespace Sys2Proof.Machine

theorem Ring.empty_sound {capacity : Nat} (h : 0 < capacity) : Ring.empty.Sound capacity :=
  ⟨Nat.zero_le _, h, Nat.zero_lt_succ _, fun _ hk => absurd hk (Nat.not_lt_zero _)⟩

theorem Setup.reset_inRange : Setup.reset.InRange := by constructor <;> decide

theorem State.reset_logSound : State.reset.LogSound := ⟨Ring.empty_sound (Nat.zero_lt_succ _), rfl⟩

theorem State.reset_listsSound : State.reset.ListsSound :=
  ⟨by decide, fun i => by simp [State.reset, State.list]⟩

@[simp] theorem State.reset_site (i : SiteId) : State.reset.site i = Site.reset := by simp [State.reset, State.site]

theorem Site.reset_sound : Site.reset.Sound := by constructor <;> decide

theorem State.reset_tieSound : State.reset.TieSound := by
  constructor <;> decide

/-- START outside IDLE and DONE (R10). -/
theorem startRequest_wrongState {s : State} (h1 : s.runner.state ≠ .idle) (h2 : s.runner.state ≠ .done) :
    startRequest s = answer .wrongState [] s := by simp [startRequest, h1, h2]

/-- START while a stop is in force (R10). -/
theorem startRequest_stopActive {s : State} {c : HaltCause} (h : s.runner.state = .idle ∨ s.runner.state = .done)
    (hstop : s.tie.stop = some c) : startRequest s = answer .stopActive [] s := by
  rcases h with h | h <;> simp [startRequest, h, hstop]

/-- START with a plan that fails the check (R7, R10). -/
theorem startRequest_planInvalid {s : State} {r : Refused} (h : s.runner.state = .idle ∨ s.runner.state = .done)
    (hstop : s.tie.stop = none) (hcheck : planCheck s.setup s.plan = some r) : startRequest s =
      answer .planInvalid [] { s with runner := { s.runner with lastRefusal := some r } } := by
  rcases h with h | h <;> simp [startRequest, h, hstop, hcheck]

/-- START accepted (R10). -/
theorem startRequest_accepted {s : State} (h : s.runner.state = .idle ∨ s.runner.state = .done)
    (hstop : s.tie.stop = none) (hcheck : planCheck s.setup s.plan = none) :
    startRequest s = startRun (answer .ok [] s) := by
  rcases h with h | h <;> simp [startRequest, h, hstop, hcheck]

/-- CLEAR_RESULTS returns a REJECTED site to ACTIVE and clears its results (R92). -/
theorem Site.clearResults_eq (x : Site) : x.clearResults =
    { x with state := if x.state = .rejected then .active else x.state, phase := none, current := 0, accrued := 0
             reject := none, firstFail := none, failBits := 0, failedPages := 0, worst := 0, result := none
             trialFailed := false } := by
  by_cases h : x.state = .rejected <;> simp [Site.clearResults, h]

/-- ABORT returns a WAITING site to ACTIVE and clears its flag (R58, R87). -/
theorem Site.abort_eq (x : Site) : x.abort =
    { x with state := if x.state = .waiting then .active else x.state, phase := none, trialFailed := false } := by
  by_cases h : x.state = .waiting <;> simp [Site.abort, h]

theorem stepRequest_paused {s : State} (h : s.runner.state = .paused) : stepRequest s =
    answer .ok [] { s with runner := { s.runner with state := .running, singleStep := true, point := .boundary } } := by
  simp [stepRequest, h]

theorem resumeRequest_paused {s : State} (h : s.runner.state = .paused) : resumeRequest s =
    answer .ok [] { s with runner := { s.runner with state := .running, point := .boundary } } := by
  simp [resumeRequest, h]

end Sys2Proof.Machine

open Sys2Proof Sys2Proof.Machine

/-- Settles O5: each block's reset values lie in their ranges. -/
theorem resetMeetsInvariants : Obligations.ResetMeetsInvariants :=
  ⟨Setup.reset_inRange, State.reset_logSound, State.reset_listsSound,
    fun i => State.reset_site i ▸ Site.reset_sound, State.reset_tieSound⟩

/-- Settles O55: a station that is not enlisted drives no line, and every other value is that of the reset state. -/
theorem powerOnResetClearsTheBlock : Obligations.PowerOnResetClearsTheBlock := by
  intro s straps
  refine ⟨powerOn straps s, rfl, rfl, rfl, rfl, rfl, rfl, rfl, rfl, rfl, rfl, rfl, rfl, rfl, rfl, rfl, rfl, rfl, rfl,
    rfl, rfl, rfl, fun i => ⟨congrArg Site.state (State.reset_site i), ?_⟩⟩
  exact Table.get_replicate [] i

/-- Settles O12: the refusals of START are the branches of `startRequest`, in their order. -/
theorem startRefusals : Obligations.StartRefusals := by
  intro s takes
  rw [exec_start takes]
  refine ⟨fun h1 h2 => ?_, fun c h hc => ?_, fun r h hstop hr => ?_⟩
  · rw [startRequest_wrongState h1 h2]
  · rw [startRequest_stopActive h hc]
  · rw [startRequest_planInvalid h hstop hr]

/-- Settles O14, by the runner's state. -/
theorem pauseSetsPendingPause : Obligations.PauseSetsPendingPause := by
  intro s takes
  rw [exec_pause takes]
  refine ⟨?_, fun h1 h2 h3 => ?_⟩
  · rintro (h | h | h) <;> simp [pauseRequest, h]
  · cases h : s.runner.state <;> simp_all [pauseRequest]

/-- Settles O21. -/
theorem clearResultsClears : Obligations.ClearResultsClears := by
  intro s takes
  rw [exec_clearResults takes]
  refine ⟨fun busy => by simp [clearResultsRequest, busy], fun quiet => ⟨_, rfl, ?_⟩⟩
  rw [clearResultsRequest, if_pos quiet]
  refine ⟨rfl, fun i => ?_, fun i => Table.get_map _ _ i, rfl⟩
  exact (Table.get_map _ _ i).trans (Site.clearResults_eq _)

/-- Settles O22. -/
theorem resetKeepsLinkAndEnlistment : Obligations.ResetKeepsLinkAndEnlistment := by
  intro s takes
  refine ⟨_, exec_reset takes, rfl, rfl, rfl, rfl, rfl, rfl, rfl, rfl, rfl, rfl, rfl, rfl, rfl, rfl, fun h => ?_⟩
  simp [resetRequest, Tie.abort, h]

/-- Settles O19, by the two branches of ABORT: in IDLE and in every other state. -/
theorem abortReturnsToIdle : Obligations.AbortReturnsToIdle := by
  intro s takes
  rw [exec_abort takes]
  refine ⟨_, rfl, ?_⟩
  by_cases idle : s.runner.state = .idle
  · have request : abortRequest s = answer .ok [] (abortIdle s) := by simp [abortRequest, idle]
    rw [request]
    refine ⟨rfl, rfl, rfl, rfl, rfl, rfl, rfl, rfl, fun i => ?_, rfl, rfl, rfl, rfl, rfl, rfl, fun _ => ?_,
      fun h => absurd idle h⟩
    · simp [abortIdle, Port.idle]
    · exact ⟨rfl, fun i => Table.get_map _ _ i, rfl, rfl, rfl, rfl, rfl, rfl, rfl⟩
  · have request : abortRequest s = answer .ok [] (abortRun s) := by simp [abortRequest, idle]
    rw [request]
    refine ⟨rfl, rfl, rfl, rfl, rfl, rfl, rfl, rfl, fun i => ?_, rfl, rfl, rfl, rfl, rfl, rfl,
      fun h => absurd h idle, fun _ => ?_⟩
    · simp [abortRun, Port.idle]
    · refine ⟨rfl, rfl, rfl, rfl, rfl, rfl, rfl, rfl, rfl, rfl, rfl, fun i => ?_, rfl, rfl, rfl, rfl, rfl, rfl,
        fun h => ?_⟩
      · exact ⟨Table.get_replicate _ i, Table.get_replicate _ i, Table.get_replicate _ i,
          (Table.get_map _ _ i).trans (Site.abort_eq _)⟩
      · simp [abortRun, Tie.abort, h]
end

section
/-! PROOFS. Stops: the host's, another station's and the rendezvous timer's. -/
namespace Sys2Proof.Machine

/-- Where a stop halts the runner at once (R17): RUNNING between two rounds, but for the handing out of a search's
results (R121), AT_MARK, PAUSED and LOG_STALL. -/
abbrev State.haltsAtOnce (s : State) : Prop :=
  s.runner.state = .running ∧ s.runner.roundInFlight = false ∧ (∀ held, s.runner.point ≠ .handOut held) ∨
    s.runner.state = .atMark ∨ s.runner.state = .paused ∨ s.runner.state = .logStall

/-- Where a stop leaves the runner as it is (R17). -/
abbrev State.holdsStop (s : State) : Prop :=
  s.runner.state = .idle ∨ s.runner.state = .done ∨ s.runner.state = .halting ∨ s.runner.state = .halted

theorem runnerStop_halts {s : State} (h : s.haltsAtOnce) (cause : HaltCause) :
    runnerStop cause s = enterHalted (some cause) s := by
  rcases h with ⟨hstate, hround, hpoint⟩ | h | h | h
  · rcases stopBetweenRounds_cases cause s with ⟨held, hheld, _⟩ | ⟨_, e⟩
    · exact absurd hheld (hpoint held)
    · simp [runnerStop, hstate, hround, e]
  all_goals simp [runnerStop, h]

theorem runnerStop_holds {s : State} (h : s.holdsStop) (cause : HaltCause) : runnerStop cause s = s := by
  rcases h with h | h | h | h <;> simp [runnerStop, h]

theorem runnerStop_inFlight {s : State} (hstate : s.runner.state = .running) (hround : s.runner.roundInFlight = true)
    (cause : HaltCause) : runnerStop cause s =
      { s with runner := { s.runner with state := .halting, haltCause := some cause }
               log := { s.log with frozen := s.log.frozen || s.setup.freeze } } := by
  simp [runnerStop, hstate, hround, freezeNotice_eq]

theorem runnerStop_handOut {s : State} {held : Option HaltCause} (hstate : s.runner.state = .running)
    (hround : s.runner.roundInFlight = false) (hpoint : s.runner.point = .handOut held) (cause : HaltCause) :
    runnerStop cause s = { s with runner := { s.runner with point := .handOut (some (held.getD cause)) } } := by
  cases held <;> simp [runnerStop, hstate, hround, stopBetweenRounds, hpoint]

/-- A stop can change the runner, the Tie Port's quiet drive, the log and the causes (R17, R18). -/
theorem runnerStop_frame (cause : HaltCause) (s : State) :
    ∃ (runner : Runner) (tie : Tie) (log : ResultLog) (causes : BitVec 5),
      (tie = s.tie ∨ tie = s.tie.quiet) ∧ runnerStop cause s =
        { s with runner := runner, tie := tie, log := log, link := { s.link with causes := causes } } := by
  rcases runnerStop_cases cause s with ⟨_, _, h⟩ | ⟨_, _, h⟩ | ⟨_, h⟩ | ⟨_, h⟩
  · rw [h, freezeNotice_eq]
    exact ⟨_, _, _, s.link.causes, .inl rfl, rfl⟩
  · rcases stopBetweenRounds_cases cause s with ⟨_, _, g⟩ | ⟨_, g⟩
    · rw [h, g]
      exact ⟨_, _, s.log, s.link.causes, .inl rfl, rfl⟩
    · rw [h, g, enterHalted_eq]
      exact ⟨_, _, _, _, .inr rfl, rfl⟩
  · rw [h, enterHalted_eq]
    exact ⟨_, _, _, _, .inr rfl, rfl⟩
  · rw [h]
    exact ⟨s.runner, _, s.log, s.link.causes, .inl rfl, rfl⟩

theorem takeStop_of_settled {s : State} (h : s.stopSettled = true) : takeStop s = s := by
  rcases takeStop_cases s with ⟨_, e⟩ | ⟨_, hstop, hnew, _⟩
  · exact e
  · simp [State.stopSettled, hstop, hnew] at h

/-- The cause that a halt records: the one recorded before, else the stop's (R18). -/
theorem orElse_some_eq_getD {α : Type} (x : Option α) (a : α) : (x <|> some a) = some (x.getD a) := by
  cases x <;> rfl

/-- The state in which an own pull has brought a stop, reported to the runner (R136, R137). -/
def State.pulling (c : OwnCause) (s : State) : State :=
  { s with tie := { s.tie with ownPull := some c, stop := some c.toHalt, reported := true } }

/-- An own pull that brings a stop reports it at once (R136, R137). -/
theorem takeStop_requestPull {s : State} (hpull : s.tie.ownPull = none) (hstop : s.tie.stop = none) (c : OwnCause) :
    takeStop (requestPull c s) = runnerStop c.toHalt (s.pulling c) := by
  simp [takeStop, requestPull, hpull, hstop, State.pulling]

/-- An own-pull request while the own pull is present changes nothing: the first cause stands (R136). -/
theorem requestPull_of_pulling {s : State} (hpull : s.tie.ownPull.isSome = true) (c : OwnCause) :
    requestPull c s = s := by
  obtain ⟨first, h⟩ := Option.isSome_iff_exists.mp hpull
  simp [requestPull, h]

/-- An own-pull request while a stop is in force leaves the stop as it is (R137). -/
theorem requestPull_of_stop {s : State} (hpull : s.tie.ownPull = none) (hstop : s.tie.stop.isSome = true)
    (c : OwnCause) : requestPull c s = { s with tie := { s.tie with ownPull := some c } } := by
  obtain ⟨cause, h⟩ := Option.isSome_iff_exists.mp hstop
  simp [requestPull, hpull, h]

/-- The state in which another station's pull has brought a stop, reported to the runner (R137). -/
def State.peerPulling (s : State) : State :=
  { s with tie := { s.tie with peerStop := true, stop := some .peerStop, reported := true } }

/-- STOP_FALL with no stop in force (R137). -/
theorem exec_stopFall {s : State} (hstop : s.tie.stop = none) :
    exec .stopFall s = .next (runnerStop .peerStop s.peerPulling) := by
  simp [exec, execStopFall, stopFallEvent, takeStop, hstop, State.peerPulling]

/-- STOP_FALL in a state in which a stop halts the runner at once. -/
theorem exec_stopFall_halts {s : State} (hstop : s.tie.stop = none) (h : s.haltsAtOnce) :
    exec .stopFall s = .next (enterHalted (some .peerStop) s.peerPulling) :=
  (exec_stopFall hstop).trans (congrArg Host.Outcome.next (runnerStop_halts (s := s.peerPulling) h _))

/-- STOP_ALL with no stop in force and no own pull (R23). -/
theorem stopAllRequest_eq {s : State} (hpull : s.tie.ownPull = none) (hstop : s.tie.stop = none) :
    stopAllRequest s = runnerStop .hostStop ((answer .ok [] s).pulling .hostStop) :=
  takeStop_requestPull (s := answer .ok [] s) hpull hstop .hostStop

/-- The runner takes a stop that its own pull has brought: the frame and the Tie Port's fields that no halt touches. -/
theorem runnerStop_pulling_frame (c : OwnCause) (s : State) : ∃ t, runnerStop c.toHalt (s.pulling c) = t ∧
    t = { s with runner := t.runner, tie := t.tie, log := t.log, link := { s.link with causes := t.link.causes } } ∧
    t.tie.ownPull = some c ∧ t.tie.stop = some c.toHalt ∧ t.tie.barrier = s.tie.barrier := by
  obtain ⟨runner, tie, log, causes, htie, h⟩ := runnerStop_frame c.toHalt (s.pulling c)
  rw [h]
  rcases htie with rfl | rfl <;> exact ⟨_, rfl, rfl, rfl, rfl, rfl⟩

end Sys2Proof.Machine

open Sys2Proof Sys2Proof.Machine

/-- Settles O20: a pull that brings a stop, by what the runner's state makes of it; a stop that is in force already
leaves the runner alone. -/
theorem stopAllPullsStop : Obligations.StopAllPullsStop := by
  refine ⟨fun s takes hpull hstop => ?_, fun s takes hreported => ⟨fun hpull => ?_, fun hpull hstop => ?_⟩⟩
  · obtain ⟨t, ht, frame, hown, hcause, hbarrier⟩ := runnerStop_pulling_frame .hostStop (answer .ok [] s)
    refine ⟨t, ?_, ?_, ?_, hown, hcause, hbarrier, fun ⟨hstate, hround⟩ => ?_,
      fun held hstate hround hpoint => ?_, fun halts => ?_, fun holds => ?_⟩
    · rw [exec_stopAll takes, stopAllRequest_eq hpull hstop]
      exact congrArg Host.Outcome.next ht
    · rw [frame]
      rfl
    · rw [frame]
      rfl
    all_goals clear frame hown hcause hbarrier; subst ht
    · rw [runnerStop_inFlight (s := (answer .ok [] s).pulling .hostStop) hstate hround]
      exact ⟨rfl, rfl, rfl⟩
    · rw [runnerStop_handOut (s := (answer .ok [] s).pulling .hostStop) hstate hround hpoint]
      exact ⟨rfl, rfl, rfl, rfl⟩
    · rw [runnerStop_halts (s := (answer .ok [] s).pulling .hostStop) halts]
      have hrunner := enterHalted_runner (some .hostStop) ((answer .ok [] s).pulling .hostStop)
      have htie := enterHalted_tie (some .hostStop) ((answer .ok [] s).pulling .hostStop)
      have hlog := enterHalted_log (some .hostStop) ((answer .ok [] s).pulling .hostStop)
      rw [orElse_some_eq_getD] at hrunner
      refine ⟨hrunner, ?_, ?_, ?_, ?_, ?_, ?_, enterHalted_hasCause _ _, congrArg ResultLog.frozen hlog,
        fun notFrozen => enterHalted_newest (s := (answer .ok [] s).pulling .hostStop) _ notFrozen⟩
      iterate 6 exact (congrArg _ htie).trans rfl
    · rw [runnerStop_holds (s := (answer .ok [] s).pulling .hostStop) holds]
      exact ⟨rfl, rfl, rfl⟩
  · have settled : (answer .ok [] s).stopSettled = true := by simp [State.stopSettled, hreported]
    rw [exec_stopAll takes, stopAllRequest, requestPull_of_pulling (s := answer .ok [] s) hpull,
      takeStop_of_settled settled]
  · rw [exec_stopAll takes, stopAllRequest, requestPull_of_stop (s := answer .ok [] s) hpull hstop,
      takeStop_of_settled (by simp [State.stopSettled, hreported])]
    rfl

/-- Settles O53: the expiry is an own pull that brings a stop, which halts a runner AT_MARK at once. -/
theorem rendezvousTimeoutHaltsAtMark : Obligations.RendezvousTimeoutHaltsAtMark := by
  intro s
  refine ⟨fun idle htimer => ?_, fun n htimer hstate hpull hstop => ?_⟩
  · simp [exec, execRendezvousTimeout, settle_of_not_busy idle, timeoutEvent, htimer]
  · have idle : s.busy = false := not_busy_of_state (by simp [hstate])
    have halts : exec .rendezvousTimeout s = .next (enterHalted (some .ownTimeout) (s.pulling .ownTimeout)) := by
      simp only [exec, execRendezvousTimeout, settle_of_not_busy idle, timeoutEvent, htimer]
      rw [takeStop_requestPull hpull hstop, runnerStop_halts (s := s.pulling .ownTimeout) (.inr (.inl hstate))]
      rfl
    refine ⟨_, halts, enterHalted_changes _ _, ?_, ?_, ?_, ?_, ?_, enterHalted_hasCause _ _,
      enterHalted_tie _ _, congrArg ResultLog.frozen (enterHalted_log _ _)⟩
    all_goals simp [State.pulling]

/-- Settles O54: STOP_FALL by what the runner's state makes of a stop, STOP_RISE by the own pull. -/
theorem stopFollowsTheLine : Obligations.StopFollowsTheLine := by
  intro s
  refine ⟨fun hstop => ?_, fun hstop => ⟨fun holds => ?_, fun hstate hround => ?_,
    fun held hstate hround hpoint => ?_, fun halts => ?_⟩, fun hpull => ?_, fun hpull => ?_⟩
  · obtain ⟨cause, hcause⟩ := Option.isSome_iff_exists.mp hstop
    simp [exec, execStopFall, stopFallEvent, hcause]
  · rw [exec_stopFall hstop, runnerStop_holds (s := s.peerPulling) holds]
    rfl
  · rw [exec_stopFall hstop, runnerStop_inFlight (s := s.peerPulling) hstate hround]
    rfl
  · rw [exec_stopFall hstop, runnerStop_handOut (s := s.peerPulling) hstate hround hpoint]
    rfl
  · have hrunner := enterHalted_runner (some .peerStop) s.peerPulling
    have hlog := enterHalted_log (some .peerStop) s.peerPulling
    rw [orElse_some_eq_getD] at hrunner hlog
    refine ⟨_, exec_stopFall_halts hstop halts, enterHalted_changes _ _, hrunner, enterHalted_tie _ _,
      enterHalted_hasCause _ _, ?_⟩
    rw [hrunner, hlog, offer_log_congr _ (s := s.peerPulling) (t := s) rfl rfl rfl]
    rfl
  · simp [exec, execStopRise, stopRiseEvent, hpull]
  · obtain ⟨cause, hcause⟩ := Option.isSome_iff_exists.mp hpull
    simp [exec, execStopRise, stopRiseEvent, hcause]
end

section
/-! SUPPORT. The runner's pieces of work: boundaries, the beginning of a step, the passing of a barrier and the forming
of a round. -/
namespace Sys2Proof.Machine

/-! ## Boundaries and steps (R11, R13) -/

theorem busy_of_boundary {s : State} (hstate : s.runner.state = .running) (hpoint : s.runner.point = .boundary) :
    s.busy = true := by simp [State.busy, hstate, hpoint]

theorem advance_of_boundary {s : State} (hpoint : s.runner.point = .boundary) : advance s = boundary s := by
  simp [advance, hpoint]

/-- A boundary with the pending pause set pauses (R11). -/
theorem works_enterPaused {s : State} (hstate : s.runner.state = .running) (hpoint : s.runner.point = .boundary)
    (hpause : s.runner.pendingPause = true) : Works 1 s (enterPaused s) :=
  .one (busy_of_boundary hstate hpoint) (by simp [advance_of_boundary hpoint, boundary, hpause])

/-- A boundary whose checks all pass is left behind (R11). -/
theorem works_passBoundary {s : State} (hstate : s.runner.state = .running) (hpoint : s.runner.point = .boundary)
    (hpause : s.runner.pendingPause = false) (hroom : s.headroomShort = false) (hstop : s.tie.stop = none) :
    Works 1 s (passBoundary s) :=
  .one (busy_of_boundary hstate hpoint) (by simp [advance_of_boundary hpoint, boundary, hpause, hroom, hstop])

/-- A step without note outside a search begins with its own work (R13). -/
theorem beginStep_eq {s : State} {step : PlanStep} (hstep : stepAt s.plan s.runner.stepIndex = some step)
    (hnote : step.note = false) (hsearch : s.search = none) : beginStep s = stepWork (clearCurrent s) := by
  simp [beginStep, hstep, hnote, hsearch]

/-- From a boundary whose checks all pass to the work of the step. -/
theorem works_stepWork {s : State} {step : PlanStep} (hstate : s.runner.state = .running)
    (hpoint : s.runner.point = .boundary) (hpause : s.runner.pendingPause = false) (hroom : s.headroomShort = false)
    (hstop : s.tie.stop = none) (hstep : stepAt s.plan s.runner.stepIndex = some step) (hnote : step.note = false)
    (hsearch : s.search = none) : Works 2 s (stepWork (clearCurrent (passBoundary s))) :=
  (works_passBoundary hstate hpoint hpause hroom hstop).trans
    (.one (by simp [State.busy, passBoundary, hstate])
      (beginStep_eq (s := passBoundary s) hstep hnote hsearch))

/-- The work of an END step (R13). -/
theorem stepWork_endStep {s : State} {step : PlanStep} (hstep : stepAt s.plan s.runner.stepIndex = some step)
    (hbody : step.body = .endStep) : stepWork s = enterDone .endStep s := by simp [stepWork, hstep, hbody]

/-- The work of a MARKER step (R13). -/
theorem stepWork_marker {s : State} {step : PlanStep} (hstep : stepAt s.plan s.runner.stepIndex = some step)
    (hbody : step.body = .marker) :
    stepWork s = workDone (offer (.markerRec s.runner.stepIndex step.label) s) := by simp [stepWork, hstep, hbody]

/-- The work of a REPEAT step (R15). -/
theorem stepWork_repeat {s : State} {step : PlanStep} {span count : Nat}
    (hstep : stepAt s.plan s.runner.stepIndex = some step) (hbody : step.body = .repeatStep span count) :
    stepWork s = repeatWork span count s := by simp [stepWork, hstep, hbody]

/-- The work of a POLL step asks for its round (R53). -/
theorem stepWork_poll {s : State} {step : PlanStep} {mask expected : Byte} {count deadline : Nat}
    (hstep : stepAt s.plan s.runner.stepIndex = some step) (hbody : step.body = .poll mask expected count deadline) :
    stepWork s = { s with runner := { s.runner with point := .ask .poll } } := by simp [stepWork, hstep, hbody]

/-- The work of a SWEEP step creates the sweep context and asks for the first round (R26, R30). -/
theorem stepWork_sweep {s : State} {step : PlanStep} {f : SweepFields}
    (hstep : stepAt s.plan s.runner.stepIndex = some step) (hbody : step.body = .sweep f) :
    stepWork s = { s with sweep := some { fields := f, position := none, successor := some (firstPosition f) }
                          runner := { s.runner with point := .ask .sweep } } := by simp [stepWork, hstep, hbody]

theorem goTo_of_lt {index : Nat} (h : index < 256) (s : State) :
    goTo index s = { s with runner := { s.runner with stepIndex := index, point := .boundary } } := by
  simp [goTo, h]

/-- Outside a search the end of a step's work completes the step (R13). -/
theorem workDone_of_noSearch {s : State} (h : s.search = none) : workDone s = goTo (s.runner.stepIndex + 1) s := by
  simp [workDone, h, completeStep]

/-- A runner paused before a step without note, outside a search, whose boundary checks pass. -/
structure State.PausedBefore (s : State) (step : PlanStep) : Prop where
  paused : s.runner.state = .paused
  noPause : s.runner.pendingPause = false
  room : s.headroomShort = false
  noStop : s.tie.stop = none
  noSearch : s.search = none
  isNext : stepAt s.plan s.runner.stepIndex = some step
  noNote : step.note = false

/-- The state that STEP or RESUME leaves in PAUSED (R20, R21). -/
def State.resumed (single : Bool) (s : State) : State :=
  answer .ok []
    { s with runner := { s.runner with state := .running, singleStep := single, point := .boundary } }

/-- The state in which the step's own work begins after STEP or RESUME (R11, R13). -/
def State.atStep (pause : Bool) (s : State) : State :=
  clearCurrent
    { answer .ok [] s with runner := { s.runner with state := .running, pendingPause := pause, singleStep := false
                                                     point := .begin } }

theorem exec_stepRun_paused {s : State} (takes : s.linkTakes = true) (h : s.runner.state = .paused) :
    exec .stepRun s = .next (s.resumed true) := by
  rw [exec_stepRun takes, stepRequest_paused h]
  rfl

theorem exec_resume_paused {s : State} (takes : s.linkTakes = true) (h : s.runner.state = .paused) :
    exec .resume s = .next (s.resumed s.runner.singleStep) := by
  rw [exec_resume takes, resumeRequest_paused h]
  rfl

/-- The runner's work after STEP or RESUME comes to the step's own work (R11, R13). -/
theorem State.PausedBefore.works {s : State} {step : PlanStep} (h : s.PausedBefore step) (single : Bool) :
    Works 2 (s.resumed single) (stepWork (s.atStep single)) := by
  have begun : clearCurrent (passBoundary (s.resumed single)) = s.atStep single := by
    simp only [passBoundary, State.resumed, State.atStep, answer_runner, h.noPause, Bool.false_or]
    rfl
  rw [← begun]
  exact works_stepWork rfl rfl h.noPause h.room h.noStop h.isNext h.noNote h.noSearch

@[simp] theorem State.atStep_site (pause : Bool) (s : State) (i : SiteId) :
    (s.atStep pause).site i = { s.site i with current := 0 } := by
  simp [State.atStep, State.site, clearCurrent]

/-! ## Barriers (R16, R131 to R133) -/

/-- The state after the Tie Port's part in a passing, with the runner RUNNING (R132, R142). -/
def State.passed (w : Wait) (sampled : Verdict) (waited : Nat) (s : State) : State :=
  let s1 : State := { s with tie := s.tie.pass w sampled, runner := { s.runner with state := .running } }
  if s.setup.markRecord then offer (.markPassed (markPassedRecord w.kind sampled waited s)) s1 else s1

theorem passBarrier_eq (w : Wait) (sampled : Verdict) (waited : Nat) (s : State) :
    passBarrier w sampled waited s = afterBarrier w.kind sampled s.tie.barrier (s.passed w sampled waited) := rfl

/-- A passing changes the runner's state, the Tie Port, the log and the causes (R132). -/
theorem State.passed_eq (w : Wait) (sampled : Verdict) (waited : Nat) (s : State) : s.passed w sampled waited =
    { s with
      runner := { s.runner with state := .running }
      tie := s.tie.pass w sampled
      log := (s.passed w sampled waited).log
      link := { s.link with causes := (s.passed w sampled waited).link.causes } } := by
  unfold State.passed
  dsimp only
  split
  · rw [offer_frame]
  · rfl

/-- The log after a passing: the mark record where Setup asks for it (R142). -/
theorem State.passed_log (w : Wait) (sampled : Verdict) (waited : Nat) (s : State) : (s.passed w sampled waited).log =
    if s.setup.markRecord then (offer (.markPassed (markPassedRecord w.kind sampled waited s)) s).log else s.log := by
  unfold State.passed
  dsimp only
  split
  · exact offer_log_congr _ rfl rfl rfl
  · rfl

/-- Without the mark record a passing leaves the log and the link alone. -/
theorem State.passed_link (w : Wait) (sampled : Verdict) (waited : Nat) {s : State} (h : s.setup.markRecord = false) :
    (s.passed w sampled waited).link = s.link := by simp [State.passed, h]

@[simp] theorem State.passed_runner (w : Wait) (sampled : Verdict) (waited : Nat) (s : State) :
    (s.passed w sampled waited).runner = { s.runner with state := .running } := by rw [State.passed_eq]

@[simp] theorem State.passed_tie (w : Wait) (sampled : Verdict) (waited : Nat) (s : State) :
    (s.passed w sampled waited).tie = s.tie.pass w sampled := by rw [State.passed_eq]

@[simp] theorem State.passed_search (w : Wait) (sampled : Verdict) (waited : Nat) (s : State) :
    (s.passed w sampled waited).search = s.search := by rw [State.passed_eq]

/-- The state after an arrival, waiting at the next barrier (R131). -/
def State.arriving (kind : BarrierKind) (vote : Option Verdict) (s : State) : State :=
  { s with
    tie := s.tie.arrive kind vote s.setup.rendezvousTimeout
    runner := { s.runner with state := .atMark, point := .mark } }

/-- An enlisted station waits (R131). -/
theorem arrive_of_enlisted {s : State} (h : s.tie.enlistment = .enlisted) (kind : BarrierKind)
    (vote : Option Verdict) : arrive kind vote s = s.arriving kind vote := by
  rcases arrive_cases kind vote s with ⟨_, e⟩ | ⟨e, _⟩
  · exact e
  · simp [State.isEnlisted, h] at e

/-- A station that is not enlisted passes the barrier at once, with its own vote or PASS (R133). -/
theorem arrive_of_notEnlisted {s : State} (h : s.tie.enlistment ≠ .enlisted) (kind : BarrierKind)
    (vote : Option Verdict) : arrive kind vote s =
      passBarrier { kind := kind, line := parityOf s.tie.barrier, waited := 0 } (vote.getD .pass) 0
        (s.arriving kind vote) := by
  rcases arrive_cases kind vote s with ⟨e, _⟩ | ⟨_, e⟩
  · simp [State.isEnlisted, h] at e
  · exact e

/-! ## The forming of a round (R42, R43, R44) -/

/-- The state with a round formed and in flight. -/
def State.formed (a : Ask) (w : RoundWork) (admits : SiteId → Bool) (s : State) : State :=
  let parts := participantSet admits s
  { s with
    round := some { work := w, participants := parts, trial := s.inTrialBody }
    runner := { s.runner with roundInFlight := true, point := .inRound a }
    sites := Table.ofFn fun i => if parts.has i then (s.sites.get i).enterRound else s.sites.get i
    ports := Table.ofFn fun i => if parts.has i then (s.ports.get i).form (roundTx s w i) else s.ports.get i
    clocks := Table.ofFn fun i => if parts.has i then clocksAtForming s.setup w else s.clocks.get i
    streams := Table.ofFn fun i => if parts.has i then streamAtForming s w i else s.streams.get i }

/-- A participant is an ACTIVE site that the supplier admits (R42). -/
theorem participantSet_has (admits : SiteId → Bool) (s : State) (i : SiteId) :
    (participantSet admits s).has i = true ↔ (s.site i).state = .active ∧ admits i = true := by
  simp [participantSet, State.isActive]

/-- A participant enters the round, its port is handed the transaction, and its timers and stream begin (R43, R44). -/
theorem State.formed_participant {a : Ask} {w : RoundWork} {admits : SiteId → Bool} {s : State} {i : SiteId}
    (h : (participantSet admits s).has i = true) :
    (s.formed a w admits).site i = (s.site i).enterRound ∧
      (s.formed a w admits).ports.get i = (s.ports.get i).form (roundTx s w i) ∧
      (s.formed a w admits).clocks.get i = clocksAtForming s.setup w ∧
      (s.formed a w admits).streams.get i = streamAtForming s w i := by
  simp [State.formed, State.site, h]

/-- A site left out of the round keeps its record, port, timers and stream (R42). -/
theorem State.formed_leftOut {a : Ask} {w : RoundWork} {admits : SiteId → Bool} {s : State} {i : SiteId}
    (h : (participantSet admits s).has i = false) :
    (s.formed a w admits).site i = s.site i ∧ (s.formed a w admits).ports.get i = s.ports.get i ∧
      (s.formed a w admits).clocks.get i = s.clocks.get i ∧
      (s.formed a w admits).streams.get i = s.streams.get i := by
  simp [State.formed, State.site, h]

theorem anyWaiting_of_waiting {s : State} {i : SiteId} (h : (s.site i).state = .waiting) : anyWaiting s = true :=
  List.any_eq_true.mpr ⟨i, mem_allSites i, by simp [State.isWaiting, h]⟩

theorem anyWaiting_eq_false {s : State} (h : ∀ i, (s.site i).state ≠ .waiting) : anyWaiting s = false := by
  simp [anyWaiting, State.isWaiting, h]

/-- A round with a participant is in flight once it is formed (R43). -/
theorem formRound_eq {a : Ask} {w : RoundWork} {admits : SiteId → Bool} {s : State} {i : SiteId}
    (h : (participantSet admits s).has i = true) : formRound a w admits s = s.formed a w admits := by
  have waits : anyWaiting (s.formed a w admits) = true :=
    anyWaiting_of_waiting (i := i) (by rw [(State.formed_participant h).1]; rfl)
  show endRoundIfDone (s.formed a w admits) = _
  rcases endRoundIfDone_cases (s.formed a w admits) with ⟨_, quiet, _⟩ | ⟨_, e⟩
  · simp [waits] at quiet
  · exact e

/-- A runner that asks for a round with enough room in the log makes its request (R12). -/
theorem works_requestRound {s : State} {a : Ask} (hstate : s.runner.state = .running)
    (hpoint : s.runner.point = .ask a) (hroom : s.headroomShort = false) : Works 1 s (requestRound a s) :=
  .one (by simp [State.busy, hstate, hpoint]) (by simp [advance, hpoint, askRound, hroom])

/-- The request for a sweep's next round makes the successor the position (R30). -/
theorem requestSweepRound_eq {s : State} {w : Sweep} {p : Position} (hsweep : s.sweep = some w)
    (hnext : w.successor = some p) : requestSweepRound s =
      formRound .sweep (.page p (w.fields.op == .erase && w.fields.invert)) (sweepAdmits w.fields p.block s)
        { s with sweep := some { w with position := some p, successor := none } } := by
  simp [requestSweepRound, hsweep, hnext]

/-- A sweep's round takes the sites whose list does not hold the block, and with the visit-listed flag every site
(R37). -/
theorem sweepAdmits_iff (f : SweepFields) (block : Nat) (s : State) (i : SiteId) :
    sweepAdmits f block s i = true ↔ f.visitListed = true ∨ ∀ e ∈ s.list i, e.block ≠ block := by
  simp [sweepAdmits, listHolds]

/-- The listed-block test looks at the lists only (R37). -/
theorem sweepAdmits_congr (f : SweepFields) (block : Nat) {s t : State} (h : s.lists = t.lists) :
    sweepAdmits f block s = sweepAdmits f block t := by
  funext i
  simp [sweepAdmits, State.list, h]

end Sys2Proof.Machine
end

section
/-! PROOFS. START and the work that START, STEP and RESUME begin. -/
namespace Sys2Proof.Machine

/-! ## START (R10) -/

/-- The state that an accepted START has made when it arrives at barrier 0 (R10, steps 1 to 5). -/
def State.started (s : State) : State :=
  let s3 := offer .runStart { clearCurrent s with log := { s.log with frozen := false } }
  { s3 with
    tie := { s3.tie with barrier := 0, sampledVeto := none, heldVeto := none, vote := none }
    runner := { s3.runner with stepIndex := 0, repeatContext := none, haltCause := none, pendingPause := false,
                               singleStep := false, lastRefusal := none } }

/-- START lifts the freeze and offers RUN_START (R10, R149). -/
theorem State.started_log (s : State) :
    s.started.log = (offer .runStart { s with log := { s.log with frozen := false } }).log :=
  offer_log_congr _ rfl rfl rfl

/-- What START makes of the state before its arrival (R10). -/
theorem State.started_eq (s : State) : s.started =
    { clearCurrent s with
      log := s.started.log
      link := { s.link with causes := s.started.link.causes }
      tie := { s.tie with barrier := 0, sampledVeto := none, heldVeto := none, vote := none }
      runner := { s.runner with stepIndex := 0, repeatContext := none, haltCause := none, pendingPause := false,
                                singleStep := false, lastRefusal := none } } := by
  unfold State.started
  dsimp only
  rw [offer_frame]
  rfl

@[simp] theorem State.started_tie (s : State) : s.started.tie =
    { s.tie with barrier := 0, sampledVeto := none, heldVeto := none, vote := none } := by rw [State.started_eq]

@[simp] theorem State.started_runner (s : State) : s.started.runner =
    { s.runner with stepIndex := 0, repeatContext := none, haltCause := none, pendingPause := false
                    singleStep := false, lastRefusal := none } := by rw [State.started_eq]

@[simp] theorem State.started_setup (s : State) : s.started.setup = s.setup := by
  rw [State.started_eq]
  rfl

@[simp] theorem State.started_site (s : State) (i : SiteId) : s.started.site i = { s.site i with current := 0 } := by
  rw [State.started_eq]
  exact Table.get_map _ _ i

@[simp] theorem State.started_log_frozen (s : State) : s.started.log.frozen = false := by
  rw [State.started_log, offer_log_frozen]

/-- An accepted START arrives at barrier 0 (R10, step 6). -/
theorem exec_start_accepted {s : State} (takes : s.linkTakes = true)
    (hstate : s.runner.state = .idle ∨ s.runner.state = .done) (hstop : s.tie.stop = none)
    (hcheck : planCheck s.setup s.plan = none) :
    exec .start s = .next (arrive .start none (answer .ok [] s).started) := by
  rw [exec_start takes, startRequest_accepted hstate hstop hcheck]
  rfl

/-- A plan that begins with END passes the check (R7, R8). -/
theorem planCheck_of_end {p : PlanStore} (h : kindCode (p.get 0) = 0) (g : Setup) : planCheck g p = none := by
  have passes : checkStep g p 0 (p.get 0) = none := by
    simp [checkStep, badKind, badRange, badSpan, spanOverlap, badBodyKind, h]
  have first : recordAt p 0 = some (p.get 0) := rfl
  simp [planCheck, checkFrom, first, passes, h]

/-- A record of kind END is an END step (R2). -/
theorem stepAt_of_end {p : PlanStore} (h : kindCode (p.get 0) = 0) :
    stepAt p 0 = some { note := noteOf (p.get 0), label := labelOf (p.get 0), body := .endStep } := by
  have body : stepBody (p.get 0) = some .endStep := by simp [stepBody, h]
  show planStep (p.get 0) = _
  simp [planStep, body]

/-- At a station that is not enlisted START passes barrier 0 at once (R133). -/
def State.startPassed (s : State) : State :=
  let t := (s.started.arriving .start none).passed { kind := .start, line := .even, waited := 0 } .pass 0
  { t with runner := { t.runner with point := .boundary } }

theorem arrive_start_notEnlisted {s : State} (h : s.tie.enlistment ≠ .enlisted) :
    arrive .start none s.started = s.startPassed := by
  rw [arrive_of_notEnlisted (by rw [State.started_tie]; exact h)]
  rfl

/-- What START makes of the state where it passes barrier 0 at once. -/
theorem State.startPassed_eq (s : State) : s.startPassed =
    { clearCurrent s with
      runner := { s.runner with
        state := .running, stepIndex := 0, repeatContext := none, pendingPause := false, singleStep := false
        haltCause := none, lastRefusal := none, point := .boundary }
      tie := s.startPassed.tie
      log := s.startPassed.log
      link := { s.link with causes := s.startPassed.link.causes } } := by
  unfold State.startPassed
  dsimp only
  rw [State.passed_eq, State.started_eq]
  rfl

@[simp] theorem State.startPassed_runner (s : State) : s.startPassed.runner =
    { s.runner with
      state := .running, stepIndex := 0, repeatContext := none, pendingPause := false, singleStep := false
      haltCause := none, lastRefusal := none, point := .boundary } := by rw [State.startPassed_eq]

@[simp] theorem State.startPassed_plan (s : State) : s.startPassed.plan = s.plan := by
  rw [State.startPassed_eq]
  rfl

@[simp] theorem State.startPassed_setup (s : State) : s.startPassed.setup = s.setup := by
  rw [State.startPassed_eq]
  rfl

@[simp] theorem State.startPassed_search (s : State) : s.startPassed.search = s.search := by
  rw [State.startPassed_eq]
  rfl

/-- The Tie Port after the passing: barrier 0 counted, PASS sampled, no wait and no timer. -/
theorem State.startPassed_tie (s : State) :
    s.startPassed.tie.barrier = 1 ∧ s.startPassed.tie.sampledVeto = some .pass ∧ s.startPassed.tie.wait = none ∧
      s.startPassed.tie.timer = none ∧ s.startPassed.tie.stop = s.tie.stop := by
  simp [State.startPassed, State.arriving, Tie.pass, Tie.arrive]

@[simp] theorem State.startPassed_log_frozen (s : State) : s.startPassed.log.frozen = false := by
  show ((s.started.arriving .start none).passed _ _ _).log.frozen = false
  rw [State.passed_log]
  split <;> simp [State.arriving]

/-- The repeat context that a REPEAT step finds or creates (R15). -/
abbrev State.repeatContextAt (s : State) (count : Nat) : RepeatContext :=
  s.runner.repeatContext.getD { index := s.runner.stepIndex, passes := count - 1 }

/-- A REPEAT step with no pass remaining completes, its context made absent (R15). -/
theorem repeatWork_completes {s : State} {span count : Nat} (h : (s.repeatContextAt count).passes = 0) :
    repeatWork span count s =
      goTo (s.runner.stepIndex + 1) { s with runner := { s.runner with repeatContext := none } } := by
  simp [repeatWork, h, completeStep]

/-- A REPEAT step with passes remaining jumps back over its span with one pass fewer (R15). -/
theorem repeatWork_jumps {s : State} {span count : Nat} (h : (s.repeatContextAt count).passes ≠ 0)
    (hindex : s.runner.stepIndex - span < 256) : repeatWork span count s =
      goTo (s.runner.stepIndex - span) { s with runner := { s.runner with
        repeatContext := some { s.repeatContextAt count with passes := (s.repeatContextAt count).passes - 1 } } } := by
  simp [repeatWork, h, goTo_of_lt hindex]

/-! ## The work of STEP (R11, R20) -/

@[simp] theorem State.atStep_runner (pause : Bool) (s : State) : (s.atStep pause).runner =
    { s.runner with state := .running, pendingPause := pause, singleStep := false, point := .begin } := rfl

/-- Work that goes to a boundary with the pending pause set pauses there (R11, R20). -/
theorem settle_of_goTo {s t : State} {n index : Nat} (h : Works n s (goTo index t)) (hindex : index < 256)
    (hstate : t.runner.state = .running) (hpause : t.runner.pendingPause = true) (hn : n < 2 ^ 64 := by decide) :
    settle s = enterPaused { t with runner := { t.runner with stepIndex := index, point := .boundary } } := by
  rw [goTo_of_lt hindex] at h
  have paused := h.trans (works_enterPaused hstate rfl hpause)
  exact settle_of_works paused (not_busy_of_state (by simp [enterPaused, setCause])) (by omega)

end Sys2Proof.Machine

open Sys2Proof Sys2Proof.Machine

/-- Settles O11: an accepted START arrives, and an enlisted station waits. -/
theorem startArrivesAtBarrierZero : Obligations.StartArrivesAtBarrierZero := by
  intro s takes hstate hstop hcheck henlisted
  have accepted := exec_start_accepted takes hstate hstop hcheck
  rw [arrive_of_enlisted (by rw [State.started_tie]; exact henlisted)] at accepted
  refine ⟨_, accepted, ?_, ?_, State.started_site _, State.started_log_frozen _, ?_, ?_, ?_⟩
  · unfold State.arriving
    rw [State.started_eq]
    rfl
  · unfold State.arriving
    rw [State.started_eq]
    rfl
  · unfold State.arriving
    rw [State.started_log]
    exact offer_newest (s := { answer .ok [] s with log := { s.log with frozen := false } }) (by simp) rfl
  · unfold State.arriving
    rw [State.started_runner]
    rfl
  · simp [State.arriving, Tie.arrive, henlisted, parityOf]

/-- Settles O13: START passes barrier 0, and two pieces of work reach the END step's DONE. -/
theorem emptyPlanRunsToDone : Obligations.EmptyPlanRunsToDone := by
  intro s takes hstate hstop henlisted hkind hnote hpolicy hsearch
  have accepted := exec_start_accepted takes hstate hstop (planCheck_of_end hkind s.setup)
  rw [arrive_start_notEnlisted (s := answer .ok [] s) henlisted] at accepted
  obtain ⟨hbarrier, hsampled, hwait, htimer, hstop'⟩ := State.startPassed_tie (answer .ok [] s)
  have hrunner := State.startPassed_runner (answer .ok [] s)
  have hplan := State.startPassed_plan (answer .ok [] s)
  have hsetup := State.startPassed_setup (answer .ok [] s)
  have hsearch' := State.startPassed_search (answer .ok [] s)
  have hframe := State.startPassed_eq (answer .ok [] s)
  have hfrozen := State.startPassed_log_frozen (answer .ok [] s)
  generalize (answer .ok [] s).startPassed = t at *
  have hstep : stepAt t.plan t.runner.stepIndex =
      some { note := noteOf (s.plan.get 0), label := labelOf (s.plan.get 0), body := .endStep } := by
    rw [hrunner, hplan]
    exact stepAt_of_end hkind
  have hroom : t.headroomShort = false := by simp [State.headroomShort, hsetup, hpolicy]
  have works : Works 2 t (enterDone .endStep (clearCurrent (passBoundary t))) := by
    rw [← stepWork_endStep (s := clearCurrent (passBoundary t)) hstep rfl]
    exact works_stepWork (by rw [hrunner]) (by rw [hrunner]) (by rw [hrunner]) hroom (hstop'.trans hstop) hstep hnote
      (hsearch'.trans hsearch)
  have settled := settle_of_works works (not_busy_of_state (by simp)) (by decide)
  refine ⟨t, accepted, ?_, hrunner, hbarrier, hsampled, hwait, htimer, ?_, ?_, ?_, ?_, ?_⟩
  · rw [hframe]
    rfl
  all_goals rw [settled]
  · simp [passBoundary, hrunner]
  · simpa [passBoundary, Tie.quiet] using hbarrier
  · exact enterDone_hasCause _ _
  · have newest := enterDone_newest .endStep (s := clearCurrent (passBoundary t)) hfrozen
    simpa [passBoundary, hsetup, hrunner] using newest
  · rw [enterDone_sites]
    exact enterDone_changes _ _

/-- Settles O16: the work after RESUME is the END step's. -/
theorem resumeRunsEndStep : Obligations.ResumeRunsEndStep := by
  intro s label takes hstate hpause hroom hstop hsearch hstep
  have before : s.PausedBefore _ := ⟨hstate, hpause, hroom, hstop, hsearch, hstep, rfl⟩
  have works := before.works s.runner.singleStep
  rw [stepWork_endStep (s := s.atStep s.runner.singleStep) hstep rfl] at works
  refine ⟨_, exec_resume_paused takes hstate, ?_⟩
  rw [settle_of_works works (not_busy_of_state (by simp)) (by decide)]
  refine ⟨enterDone_runner _ _, enterDone_tie _ _, enterDone_hasCause _ _, fun i => ?_, ?_, ?_, ?_⟩
  · rw [State.site, enterDone_sites]
    exact State.atStep_site _ s i
  · exact enterDone_link_response _ _
  · rw [enterDone_log, offer_log_congr _ (s := s.atStep s.runner.singleStep) (t := s) rfl rfl rfl]
    rfl
  · rw [enterDone_sites]
    rw [enterDone_changes]
    rfl

/-- Settles O15: STEP and RESUME by the runner's state; over a MARKER step the work is its record and the pause at the
next boundary. -/
theorem stepRunsOneStep : Obligations.StepRunsOneStep := by
  refine ⟨fun s takes hstate => ⟨exec_stepRun_paused takes hstate, exec_resume_paused takes hstate⟩,
    fun s label takes hstate hpause hroom hstop hsearch hindex hstep => ?_, fun s takes hstate => ?_⟩
  · have before : s.PausedBefore _ := ⟨hstate, hpause, hroom, hstop, hsearch, hstep, rfl⟩
    have works := before.works true
    have noSearch : (offer (.markerRec (s.atStep true).runner.stepIndex label) (s.atStep true)).search = none :=
      (offer_search _ _).trans hsearch
    rw [stepWork_marker (s := s.atStep true) hstep rfl, workDone_of_noSearch noSearch, offer_runner] at works
    refine ⟨_, exec_stepRun_paused takes hstate, ?_⟩
    rw [settle_of_goTo works (Nat.succ_lt_succ hindex) (by simp) (by simp)]
    refine ⟨?_, hasCause_setCause .paused _, fun i => ?_, ?_, ?_, ?_⟩
    · simp [enterPaused, setCause, State.atStep]
    · simp [enterPaused, setCause, State.site, State.atStep]
    · simp [enterPaused, setCause, State.atStep, Status.code]
    · exact offer_log_congr _ (s := s.atStep true) (t := s) rfl rfl rfl
    · unfold enterPaused setCause
      dsimp only
      rw [offer_frame]
      rfl
  · rw [exec_stepRun takes, exec_resume takes]
    simp [stepRequest, resumeRequest, hstate]

/-- Settles O17: a REPEAT step goes to one of two boundaries, where the work of STEP pauses. -/
theorem repeatJumpsOrCompletes : Obligations.RepeatJumpsOrCompletes := by
  intro s label span count takes hstate hpause hroom hstop hsearch hindex hstep context paused
  have before : s.PausedBefore _ := ⟨hstate, hpause, hroom, hstop, hsearch, hstep, rfl⟩
  have works := before.works true
  rw [stepWork_repeat (s := s.atStep true) hstep rfl] at works
  refine ⟨_, exec_stepRun_paused takes hstate, ?_⟩
  by_cases hpasses : context.passes = 0
  · rw [repeatWork_completes (s := s.atStep true) hpasses] at works
    rw [settle_of_goTo works (Nat.succ_lt_succ hindex) rfl rfl]
    exact ⟨rfl, hasCause_setCause .paused _, State.atStep_site true s, fun _ => rfl,
      fun left => absurd hpasses left.ne'⟩
  · have left : s.runner.stepIndex - span < 256 := by omega
    rw [repeatWork_jumps (s := s.atStep true) hpasses left] at works
    rw [settle_of_goTo works left rfl rfl]
    exact ⟨rfl, hasCause_setCause .paused _, State.atStep_site true s, fun none => absurd none hpasses,
      fun _ => rfl⟩
end

section
/-! PROOFS. The rounds that POLL and SWEEP steps ask for. -/
namespace Sys2Proof.Machine

/-! ## Ports at forming (R41, R43, R53) -/

theorem Port.form_idle_none {p : Port} (h : p.current = none) : p.form none = p := by simp [Port.form, h]

theorem Port.form_busy_none {p : Port} {c : Carried} (h : p.current = some c) :
    p.form none = { current := some c, queued := some .status } := by simp [Port.form, h]

theorem Port.form_idle_some {p : Port} (h : p.current = none) (tx : Tx) :
    p.form (some tx) = { current := some { tx := tx, live := true }, queued := p.queued } := by
  simp [Port.form, Port.send, h]

theorem Port.form_busy_some {p : Port} {c : Carried} (h : p.current = some c) (tx : Tx) :
    p.form (some tx) = { current := some c, queued := some tx } := by simp [Port.form, Port.send, h]

/-! ## The transaction and the stream of a sweep's first round (R30, R35, R36) -/

/-- A first round of kind PROGRAM has a page (R26, R29). -/
theorem firstPosition_page_of_program {f : SweepFields} (h : (firstPosition f).kind = .program) :
    (firstPosition f).page = some (dimStart f.pageOrder f.firstPage f.lastPage) := by
  cases hop : f.op <;> simp_all [firstPosition, firstKind]

/-- The transaction of a page round: a PROGRAM carries the bytes of its page's stream (R30, R36, R43). -/
theorem pageTx_eq {s : State} {w : Sweep} {p : Position} (hsweep : s.sweep = some w)
    (hpage : p.kind = .program → ∃ page, p.page = some page) (precondition : Bool) :
    pageTx s p precondition = if p.kind = .program then
        .program p (pageStream w.fields s.setup.pagesPerBlock s.setup.pageBytes p.block (p.page.getD 0))
      else .page p precondition := by
  by_cases hkind : p.kind = .program
  · obtain ⟨page, h⟩ := hpage hkind
    simp [pageTx, programData, hkind, hsweep, h]
  · cases h : p.kind <;> simp_all [pageTx]

/-- The stream of a PROGRAM round under RANDOM starts with s₀ (R35). -/
theorem streamAtForming_random {s : State} {w : Sweep} {p : Position} {page : Nat} (hsweep : s.sweep = some w)
    (hkind : p.kind = .program) (hpage : p.page = some page) (hpattern : w.fields.pattern = .random)
    (precondition : Bool) (i : SiteId) : streamAtForming s (.page p precondition) i =
      some (randomStart w.fields.seed (linearPage s.setup.pagesPerBlock p.block page)) := by
  simp [streamAtForming, hsweep, hkind, streamStart, hpattern, hpage]

/-! ## From the step to the round in flight -/

/-- The state in which a POLL step asks for its round. -/
def State.askingPoll (s : State) : State := { s with runner := { s.runner with point := .ask .poll } }

/-- The state in which a SWEEP step asks for its first round. -/
def State.askingSweep (f : SweepFields) (s : State) : State :=
  { s with sweep := some { fields := f, position := none, successor := some (firstPosition f) }
           runner := { s.runner with point := .ask .sweep } }

/-- The state in which the first round of a sweep is formed: its successor is the position (R30). -/
def State.atFirstRound (f : SweepFields) (s : State) : State :=
  { s.askingSweep f with sweep := some { fields := f, position := some (firstPosition f), successor := none } }

theorem requestRound_poll {s : State} {step : PlanStep} {mask expected : Byte} {count deadline : Nat}
    (hstep : stepAt s.plan s.runner.stepIndex = some step) (hbody : step.body = .poll mask expected count deadline) :
    requestRound .poll s = formRound .poll (.poll mask expected count deadline) (fun _ => true) s := by
  simp [requestRound, hstep, hbody]

/-- RESUME before a POLL step: the work puts its round in flight (R53). -/
theorem State.PausedBefore.settle_poll {s : State} {label : Nat} {mask expected : Byte} {count deadline : Nat}
    (h : s.PausedBefore { note := false, label := label, body := .poll mask expected count deadline })
    {i : SiteId} (hactive : (s.site i).state = .active) (single : Bool) : settle (s.resumed single) =
      (s.atStep single).askingPoll.formed .poll (.poll mask expected count deadline) (fun _ => true) := by
  have works := h.works single
  rw [stepWork_poll (s := s.atStep single) h.isNext rfl] at works
  have asked := works.trans (works_requestRound (s := (s.atStep single).askingPoll) rfl rfl h.room)
  have member : (participantSet (fun _ => true) (s.atStep single).askingPoll).has i = true :=
    (participantSet_has _ _ i).mpr ⟨(congrArg Site.state (State.atStep_site single s i)).trans hactive, rfl⟩
  rw [requestRound_poll (s := (s.atStep single).askingPoll) h.isNext rfl, formRound_eq member] at asked
  exact settle_of_works asked (not_busy_of_inRound rfl) (by decide)

/-- RESUME before a SWEEP step: the work puts its first round in flight (R30). -/
theorem State.PausedBefore.settle_sweep {s : State} {label : Nat} {f : SweepFields}
    (h : s.PausedBefore { note := false, label := label, body := .sweep f }) {i : SiteId}
    (hactive : (s.site i).state = .active) (hadmits : sweepAdmits f (firstPosition f).block s i = true)
    (single : Bool) : settle (s.resumed single) =
      ((s.atStep single).atFirstRound f).formed .sweep (.page (firstPosition f) (f.op == .erase && f.invert))
        (sweepAdmits f (firstPosition f).block s) := by
  have works := h.works single
  rw [stepWork_sweep (s := s.atStep single) h.isNext rfl] at works
  have asked := works.trans (works_requestRound (s := (s.atStep single).askingSweep f) rfl rfl h.room)
  have request : requestRound .sweep ((s.atStep single).askingSweep f) =
      formRound .sweep (.page (firstPosition f) (f.op == .erase && f.invert))
        (sweepAdmits f (firstPosition f).block s) ((s.atStep single).atFirstRound f) := by
    rw [← sweepAdmits_congr f _ (s := (s.atStep single).askingSweep f) (t := s) rfl]
    exact requestSweepRound_eq (s := (s.atStep single).askingSweep f)
      (w := { fields := f, position := none, successor := some (firstPosition f) }) rfl rfl
  have member : (participantSet (sweepAdmits f (firstPosition f).block s)
      ((s.atStep single).atFirstRound f)).has i = true :=
    (participantSet_has _ _ i).mpr ⟨(congrArg Site.state (State.atStep_site single s i)).trans hactive, hadmits⟩
  rw [request, formRound_eq member] at asked
  exact settle_of_works asked (not_busy_of_inRound rfl) (by decide)

end Sys2Proof.Machine

open Sys2Proof Sys2Proof.Machine

/-- Settles O18: the round in flight, then each site as a participant or left out of it. -/
theorem pollRoundIsFormed : Obligations.PollRoundIsFormed := by
  refine ⟨?_, ?_⟩
  · intro s label mask expected count deadline takes hstate hpause hroom hstop hsearch hsome hstep
    have before : s.PausedBefore _ := ⟨hstate, hpause, hroom, hstop, hsearch, hstep, rfl⟩
    obtain ⟨first, hfirst⟩ := hsome
    refine ⟨_, exec_resume_paused takes hstate, ?_⟩
    rw [before.settle_poll hfirst]
    have site (i) : (s.atStep s.runner.singleStep).askingPoll.site i = { s.site i with current := 0 } :=
      State.atStep_site _ s i
    have member (i) : (participantSet (fun _ => true) (s.atStep s.runner.singleStep).askingPoll).has i = true ↔
        (s.site i).state = .active := by simp [participantSet_has, site]
    refine ⟨rfl, rfl, ⟨_, rfl, rfl, ?_, member⟩, fun i => ⟨fun hactive => ?_, fun hrest => ?_⟩⟩
    · simp [State.inTrialBody, State.askingPoll, State.atStep, hsearch]
    · obtain ⟨hsite, hport, hclocks, _⟩ := State.formed_participant (a := .poll)
        (w := .poll mask expected count deadline) ((member i).mpr hactive)
      refine ⟨hsite.trans (by rw [site]; rfl), hclocks, fun hidle => ?_, fun c hbusy => ?_⟩
      · exact hport.trans (Port.form_idle_none hidle)
      · exact hport.trans (Port.form_busy_none hbusy)
    · obtain ⟨hsite, hport, hclocks, hstream⟩ := State.formed_leftOut (a := .poll)
        (w := .poll mask expected count deadline) (Bool.eq_false_iff.mpr fun h => hrest ((member i).mp h))
      exact ⟨hsite.trans (site i), hclocks, hport, hstream⟩
  · intro s label f takes hstate hpause hroom hstop hsearch hstep p takesPart sent hsome
    have before : s.PausedBefore _ := ⟨hstate, hpause, hroom, hstop, hsearch, hstep, rfl⟩
    obtain ⟨first, hfirst, hadmits⟩ := hsome
    refine ⟨_, exec_resume_paused takes hstate, ?_⟩
    rw [before.settle_sweep hfirst ((sweepAdmits_iff _ _ _ _).mpr hadmits)]
    have site (i) : ((s.atStep s.runner.singleStep).atFirstRound f).site i = { s.site i with current := 0 } :=
      State.atStep_site _ s i
    have member (i) : (participantSet (sweepAdmits f p.block s)
        ((s.atStep s.runner.singleStep).atFirstRound f)).has i = true ↔ takesPart i := by
      simp [participantSet_has, site, sweepAdmits_iff, takesPart]
    have tx (i) : roundTx ((s.atStep s.runner.singleStep).atFirstRound f) (.page p (f.op == .erase && f.invert)) i =
        some sent :=
      congrArg some (pageTx_eq (s := (s.atStep s.runner.singleStep).atFirstRound f)
        (w := { fields := f, position := some p, successor := none }) rfl
        (fun h => ⟨_, firstPosition_page_of_program h⟩) _)
    refine ⟨rfl, rfl, rfl, ⟨_, rfl, rfl, ?_, member⟩, fun i => ⟨fun hpart => ?_, fun hrest => ?_⟩⟩
    · simp [State.inTrialBody, State.atFirstRound, State.askingSweep, State.atStep, hsearch]
    · obtain ⟨hsite, hport, hclocks, hstream⟩ := State.formed_participant (a := .sweep)
        (w := .page p (f.op == .erase && f.invert)) ((member i).mpr hpart)
      rw [tx] at hport
      refine ⟨hsite.trans (by rw [site]; rfl), hclocks, fun hidle => ?_, fun c hbusy => ?_,
        fun hkind hpattern => ?_⟩
      · exact hport.trans (Port.form_idle_some hidle sent)
      · exact hport.trans (Port.form_busy_some hbusy sent)
      · have page := firstPosition_page_of_program hkind
        rw [page]
        exact hstream.trans (streamAtForming_random
          (w := { fields := f, position := some p, successor := none }) rfl hkind page hpattern _ i)
    · obtain ⟨hsite, hport, hclocks, hstream⟩ := State.formed_leftOut (a := .sweep)
        (w := .page p (f.op == .erase && f.invert)) (Bool.eq_false_iff.mpr fun h => hrest ((member i).mp h))
      exact ⟨hsite.trans (site i), hclocks, hport, hstream⟩
end

section
/-! SUPPORT. The end of a site's part, the end of a round, and the reports of a port that carries the round's
transaction. -/
namespace Sys2Proof.Machine

/-! ## The end of a site's part (R56, R78) -/

theorem Site.leaveRound_of_waiting {x : Site} (h : x.state = .waiting) :
    x.leaveRound = { x with state := .active, phase := none } := by simp [Site.leaveRound, h]

theorem modifySite_site_ne {i j : SiteId} (h : j ≠ i) (f : Site → Site) (s : State) :
    (modifySite i f s).site j = s.site j := by
  simp [State.site, Table.get_modify, h.symm]

@[simp] theorem modifySite_site_self (i : SiteId) (f : Site → Site) (s : State) :
    (modifySite i f s).site i = f (s.site i) := by
  simp [State.site, Table.get_modify]

/-- The part of a site ends while another site is WAITING: the round goes on (R56). -/
theorem endPart_of_others {s : State} {i : SiteId} (hsettled : s.stopSettled = true) (hothers : s.othersWait i) :
    endPart i s = modifySite i Site.leaveRound s := by
  obtain ⟨j, hj, hwaits⟩ := hothers
  have waits : anyWaiting (modifySite i Site.leaveRound s) = true :=
    anyWaiting_of_waiting (i := j) (by rw [modifySite_site_ne hj]; exact hwaits)
  rw [endPart, takeStop_of_settled hsettled]
  rcases endRoundIfDone_cases (modifySite i Site.leaveRound s) with ⟨_, quiet, _⟩ | ⟨_, e⟩
  · simp [waits] at quiet
  · exact e

/-- The part of the last WAITING site ends: the round ends (R56). -/
theorem endPart_of_last {s : State} {i : SiteId} {r : Round} (hsettled : s.stopSettled = true)
    (hround : s.round = some r) (hlast : ∀ j, j ≠ i → (s.site j).state ≠ .waiting) :
    endPart i s = endRound (modifySite i Site.leaveRound s) := by
  have quiet : anyWaiting (modifySite i Site.leaveRound s) = false := by
    refine anyWaiting_eq_false fun j => ?_
    by_cases h : j = i
    · subst h
      rw [modifySite_site_self]
      cases hs : (s.site j).state <;> simp [Site.leaveRound, hs]
    · rw [modifySite_site_ne h]
      exact hlast j h
  rw [endPart, takeStop_of_settled hsettled]
  rcases endRoundIfDone_cases (modifySite i Site.leaveRound s) with ⟨_, _, e⟩ | ⟨none | waits, _⟩
  · exact e
  · simp [hround] at none
  · simp [quiet] at waits

/-! ## The end of a round (R17, R29, R31, R56) -/

/-- The state with the round's record removed and its end reported. -/
def State.roundOver (s : State) : State :=
  { s with round := none, runner := { s.runner with roundInFlight := false } }

/-- In HALTING the end of the round enters HALTED (R17). -/
theorem endRound_halting {s : State} (h : s.runner.state = .halting) :
    endRound s = enterHalted s.tie.stop s.roundOver := by simp [endRound, h, State.roundOver]

/-- In RUNNING the end of a round goes on with what the runner asked it for. -/
theorem endRound_running {s : State} {a : Ask} (h : s.runner.state = .running) (hpoint : s.runner.point = .inRound a) :
    endRound s = afterRound a s.roundOver := by simp [endRound, h, hpoint, State.roundOver]

/-- The state in which a sweep asks for its next round. -/
def State.sweepGoesOn (w : Sweep) (q : Position) (s : State) : State :=
  { s with sweep := some { w with successor := some q }, runner := { s.runner with point := .ask .sweep } }

/-- The state in which a sweep and its step are complete. -/
def State.sweepOver (s : State) : State :=
  { s with sweep := none, runner := { s.runner with stepIndex := s.runner.stepIndex + 1, point := .boundary } }

/-- A sweep with a round left asks for it (R29). -/
theorem sweepRoundEnded_next {s : State} {w : Sweep} {p q : Position} (hsweep : s.sweep = some w)
    (hposition : w.position = some p) (hnext : successorOf w.fields p = some q) :
    sweepRoundEnded s = s.sweepGoesOn w q := by
  simp [sweepRoundEnded, hsweep, hposition, hnext, State.sweepGoesOn]

/-- A sweep with no round left is over, and outside a search its step completes (R13, R31). -/
theorem sweepRoundEnded_last {s : State} {w : Sweep} {p : Position} (hsweep : s.sweep = some w)
    (hposition : w.position = some p) (hnext : successorOf w.fields p = none) (hsearch : s.search = none)
    (hindex : s.runner.stepIndex < 255) : sweepRoundEnded s = s.sweepOver := by
  have ended : sweepRoundEnded s = workDone { s with sweep := none } := by
    simp [sweepRoundEnded, hsweep, hposition, hnext]
  rw [ended, workDone_of_noSearch (s := { s with sweep := none }) hsearch, goTo_of_lt (Nat.succ_lt_succ hindex)]
  rfl

/-! ## The issue of a transaction (R44, R55) -/

/-- The issue of a live transaction of the round at a WAITING site. -/
theorem exec_issue_live {s : State} {i : SiteId} {r : Round} {tx : Tx} (hround : s.round = some r)
    (hport : s.ports.get i = { current := some { tx := tx, live := true }, queued := none })
    (hreport : tx.report = .sent) (hwaiting : (s.site i).state = .waiting) (hidle : s.busy = false) :
    exec (.issue i) s = .next (issueLive i r s) := by
  simp [exec, execIssue, issueEvent, Port.discards, Port.reports, State.port, hport, hreport,
    settle_of_not_busy hidle, issueSettled, hround, State.isWaiting, hwaiting]

/-- The state of a site's port and stream after the issue of its transaction, with nothing queued behind it (R41). -/
def State.issued (i : SiteId) (s : State) : State :=
  { s with ports := s.ports.set i { current := none, queued := none }, streams := s.streams.set i none }

/-- The issue of a SETPARAM transaction ends the site's part (R55). -/
theorem issueLive_setparam {s : State} {i : SiteId} {r : Round} {tx : Tx} {address : Byte}
    {values : PerSite (Option Byte)} (hwork : r.work = .setparam address values)
    (hport : s.ports.get i = { current := some { tx := tx, live := true }, queued := none }) :
    issueLive i r s = endPart i (s.issued i) := by
  simp [issueLive, hwork, Port.ended, State.port, hport, setPort, State.issued]

/-! ## Status results (R45, R46) -/

/-- The status result of a live STATUS at a site that awaits ready. -/
theorem exec_statusResult_live {s : State} {i : SiteId} {r : Round} (status : Byte) (hround : s.round = some r)
    (hport : s.ports.get i = { current := some { tx := .status, live := true }, queued := none })
    (hwaiting : (s.site i).state = .waiting) (hphase : (s.site i).phase = some .awaitReady) (hidle : s.busy = false) :
    exec (.statusResult i status) s = .next (statusLive i r status s) := by
  simp [exec, execStatusResult, statusEvent, Port.discards, Port.reports, State.port, hport, Tx.report,
    settle_of_not_busy hidle, statusSettled, hround, State.awaitsReady, State.isWaiting, hwaiting, hphase]

/-- The state in which a site's run of matches has reached `count`, its port idle again (R45). -/
def State.counted (i : SiteId) (count : Nat) (s : State) : State :=
  { s with
    sites := s.sites.set i { s.site i with runCount := count }
    ports := s.ports.set i { current := none, queued := none } }

/-- The state in which a site has become ready with a run of `count` matches: its timers are stopped too (R46). -/
def State.readyAt (i : SiteId) (count : Nat) (s : State) : State := setClocks i Clocks.stopped (s.counted i count)

/-- The match that completes the run makes the site ready (R46). -/
theorem statusLive_ready {s : State} {i : SiteId} {r : Round} {status : Byte} {count : Nat}
    (hport : s.ports.get i = { current := some { tx := .status, live := true }, queued := none })
    (hmatch : statusMatches s.setup r.work status = true) (hcount : (s.site i).runCount + 1 = count)
    (hrun : roundMatchCount s.setup r.work = count) :
    statusLive i r status s = siteReady i r status (s.counted i count) := by
  have counted : modifySite i (fun x => { x with runCount := count }) (setPort i (s.port i).ended s) =
      s.counted i count := by
    simp [modifySite, Table.modify, setPort, Port.ended, State.port, hport, State.counted, State.site]
  simp [statusLive, hmatch, hcount, hrun, counted]

/-- In an ERASE or PROGRAM round a site that is ready and has not failed ends its part (R46). -/
theorem siteReady_done {s : State} {i : SiteId} {r : Round} {p : Position} {pre : Bool} {status : Byte} {count : Nat}
    (hwork : r.work = .page p pre) (hkind : p.kind ≠ .read) (hok : opFailed s.setup status = false) :
    siteReady i r status (s.counted i count) = endPart i (s.readyAt i count) := by
  have ok : opFailed (s.counted i count).setup status = false := hok
  simp only [siteReady, hwork, ok]
  cases h : p.kind with
  | read => exact absurd h hkind
  | erase => rfl
  | program => rfl

/-- In a READ round a site that is ready and has not failed begins its data part (R51). -/
theorem siteReady_read {s : State} {i : SiteId} {r : Round} {p : Position} {pre : Bool} {status : Byte} {count : Nat}
    (hwork : r.work = .page p pre) (hkind : p.kind = .read) (hok : opFailed s.setup status = false) :
    siteReady i r status (s.counted i count) = beginData i r p (s.readyAt i count) := by
  have ok : opFailed (s.counted i count).setup status = false := hok
  simp only [siteReady, hwork, ok, hkind]
  rfl

/-- In a POLL round a site that is ready ends its part (R53). -/
theorem siteReady_poll {s : State} {i : SiteId} {r : Round} {mask expected status : Byte} {count deadline n : Nat}
    (hwork : r.work = .poll mask expected n deadline) :
    siteReady i r status (s.counted i count) = endPart i (s.readyAt i count) := by
  simp only [siteReady, hwork]
  rfl

/-- The state in which a ready site's part has ended (R46, R78). -/
def State.partOver (i : SiteId) (count : Nat) (s : State) : State :=
  { s with
    sites := s.sites.set i { s.site i with runCount := count, state := .active, phase := none }
    ports := s.ports.set i { current := none, queued := none }
    clocks := s.clocks.set i { poll := none, deadline := none } }

theorem leaveRound_readyAt {s : State} {i : SiteId} (hwaiting : (s.site i).state = .waiting) (count : Nat) :
    modifySite i Site.leaveRound (s.readyAt i count) = s.partOver i count := by
  have left : Site.leaveRound { s.site i with runCount := count } =
      { s.site i with runCount := count, state := .active, phase := none } := Site.leaveRound_of_waiting hwaiting
  simp [modifySite, Table.modify, State.readyAt, State.counted, setClocks, Clocks.stopped, State.partOver, left]

/-- Another site of the round is as it was after this one has become ready. -/
theorem State.readyAt_site_ne {s : State} {i j : SiteId} (h : j ≠ i) (count : Nat) :
    (s.readyAt i count).site j = s.site j := Table.get_set_ne _ _ h.symm

theorem State.readyAt_othersWait {s : State} {i : SiteId} (h : s.othersWait i) (count : Nat) :
    (s.readyAt i count).othersWait i := by
  obtain ⟨j, hj, hwaits⟩ := h
  exact ⟨j, hj, by rw [State.readyAt_site_ne hj]; exact hwaits⟩

/-- A ready site's part ends while another site is WAITING. -/
theorem endPart_readyAt_of_others {s : State} {i : SiteId} (hwaiting : (s.site i).state = .waiting)
    (hsettled : s.stopSettled = true) (hothers : s.othersWait i) (count : Nat) :
    endPart i (s.readyAt i count) = s.partOver i count := by
  rw [endPart_of_others (s := s.readyAt i count) hsettled (State.readyAt_othersWait hothers count),
    leaveRound_readyAt hwaiting]

/-- A ready site's part ends as the last one of its round. -/
theorem endPart_readyAt_of_last {s : State} {i : SiteId} {r : Round} (hwaiting : (s.site i).state = .waiting)
    (hsettled : s.stopSettled = true) (hround : s.round = some r)
    (hlast : ∀ j, j ≠ i → (s.site j).state ≠ .waiting) (count : Nat) :
    endPart i (s.readyAt i count) = endRound (s.partOver i count) := by
  rw [endPart_of_last (s := s.readyAt i count) hsettled hround, leaveRound_readyAt hwaiting]
  intro j hj
  rw [State.readyAt_site_ne hj]
  exact hlast j hj

/-- The state in which the last part of a round has ended, and the round with it. -/
def State.lastPartOver (i : SiteId) (count : Nat) (s : State) : State := (s.partOver i count).roundOver

/-- The status byte that makes the last WAITING site of an ERASE or PROGRAM round ready ends the sweep's round. -/
theorem exec_statusResult_last {s : State} {i : SiteId} {r : Round} {p : Position} {pre : Bool} {status : Byte}
    (hround : s.round = some r) (hwork : r.work = .page p pre) (hkind : p.kind ≠ .read)
    (hwaiting : (s.site i).state = .waiting) (hphase : (s.site i).phase = some .awaitReady)
    (hport : s.ports.get i = { current := some { tx := .status, live := true }, queued := none })
    (hmatch : (status &&& s.setup.readyMask) = s.setup.readyValue)
    (hcount : (s.site i).runCount + 1 = s.setup.matchCount) (hok : (status &&& s.setup.failMask) = 0)
    (hlast : ∀ j, j ≠ i → (s.site j).state ≠ .waiting) (hstop : s.tie.stop = none)
    (hstate : s.runner.state = .running) (hpoint : s.runner.point = .inRound .sweep) :
    exec (.statusResult i status) s = .next (sweepRoundEnded (s.lastPartOver i s.setup.matchCount)) := by
  rw [exec_statusResult_live status hround hport hwaiting hphase (not_busy_of_inRound hpoint),
    statusLive_ready hport (by simp [statusMatches, hwork, hmatch]) hcount (by simp [roundMatchCount, hwork]),
    siteReady_done hwork hkind (by simp [opFailed, hok]),
    endPart_readyAt_of_last hwaiting (by simp [State.stopSettled, hstop]) hround hlast,
    endRound_running (s := s.partOver i s.setup.matchCount) hstate hpoint]
  rfl

end Sys2Proof.Machine

open Sys2Proof Sys2Proof.Machine

/-- Settles O42: the issue ends the site's part; as the last part in HALTING it ends the round and halts the runner. -/
theorem setparamIssueEndsPart : Obligations.SetparamIssueEndsPart := by
  refine ⟨?_, ?_⟩
  · intro s i r address value values hround hwork hwaiting hport hothers hsettled hidle
    rw [exec_issue_live hround hport rfl hwaiting hidle, issueLive_setparam hwork hport,
      endPart_of_others (s := s.issued i) hsettled hothers]
    exact congrArg (fun x => Host.Outcome.next { s.issued i with sites := s.sites.set i x })
      (Site.leaveRound_of_waiting hwaiting)
  · intro s i r address value values cause hround hwork hwaiting hport hlast hsettled hstate hcause
    have ends : exec (.issue i) s = .next (enterHalted s.tie.stop
        (modifySite i Site.leaveRound (s.issued i)).roundOver) := by
      rw [exec_issue_live hround hport rfl hwaiting (not_busy_of_state (by simp [hstate])),
        issueLive_setparam hwork hport, endPart_of_last (s := s.issued i) hsettled hround hlast,
        endRound_halting (s := modifySite i Site.leaveRound (s.issued i)) hstate]
      rfl
    have site (j) : (enterHalted s.tie.stop (modifySite i Site.leaveRound (s.issued i)).roundOver).site j =
        (modifySite i Site.leaveRound (s.issued i)).site j := by rw [State.site, enterHalted_sites]; rfl
    refine ⟨_, ends, enterHalted_round _ _, ?_, enterHalted_hasCause _ _, ?_, ?_, ?_, ?_, ?_, ?_, ?_,
      fun j hj => ?_, ?_⟩
    · simp [State.roundOver, State.issued, hcause]
    iterate 5 rw [enterHalted_tie]; rfl
    · rw [enterHalted_log]
      rfl
    · rw [site, modifySite_site_self]
      exact Site.leaveRound_of_waiting hwaiting
    · rw [site, modifySite_site_ne hj]
      rfl
    · rw [enterHalted_changes]
      rfl
end

section
/-! PROOFS. A ready site goes on, and the barriers passed at the rise of a mark line. -/
namespace Sys2Proof.Machine

/-! ## The data part of a READ (R51, R62) -/

/-- The data part begins: phase, port, tally record and stream of the site; every other site is as it was (R51). -/
theorem beginData_eq {s : State} {i : SiteId} {r : Round} {p : Position} (htrial : r.trial = false) (count : Nat) :
    beginData i r p (s.readyAt i count) =
      { s with
        sites := s.sites.set i { s.site i with runCount := count, phase := some .awaitData }
        ports := s.ports.set i { current := some { tx := .readData p, live := true }, queued := none }
        clocks := s.clocks.set i { poll := none, deadline := none }
        tallies := s.tallies.set i (some {
          block := p.block, page := p.page.getD 0, trialCode := none, taken := 0
          sums := List.replicate (codewordCount s.setup.pageBytes s.setup.codewordBytes) 0 })
        streams := s.streams.set i (s.sweep.bind fun w => streamStart w.fields s.setup.pagesPerBlock p) } := by
  simp [beginData, Table.modify, State.readyAt, State.counted, setClocks, State.port, htrial, Clocks.stopped]

/-- The stream of a page starts with s₀ under RANDOM and has no state under another pattern (R35). -/
theorem streamStart_of_page {f : SweepFields} {p : Position} {page : Nat} (hpage : p.page = some page)
    (pagesPerBlock : Nat) : streamStart f pagesPerBlock p =
      if f.pattern = .random then some (toWord (f.seed + 257 * (p.block * pagesPerBlock + page))) else none := by
  cases h : f.pattern <;> simp [streamStart, h, hpage, randomStart, linearPage]

/-- A sweep with the visit-listed flag and an ACTIVE site: the runner that asks for the next round forms it (R30). -/
theorem settle_sweepRound {s : State} {w : Sweep} {q : Position} {i : SiteId} (hstate : s.runner.state = .running)
    (hpoint : s.runner.point = .ask .sweep) (hroom : s.headroomShort = false) (hsweep : s.sweep = some w)
    (hnext : w.successor = some q) (hlisted : w.fields.visitListed = true) (hactive : (s.site i).state = .active) :
    let asked : State := { s with sweep := some { w with position := some q, successor := none } }
    let admits := sweepAdmits w.fields q.block s
    settle s = asked.formed .sweep (.page q (w.fields.op == .erase && w.fields.invert)) admits ∧
      (participantSet admits asked).has i = true := by
  intro asked admits
  have member : (participantSet admits asked).has i = true :=
    (participantSet_has admits asked i).mpr ⟨hactive, (sweepAdmits_iff _ _ s i).mpr (.inl hlisted)⟩
  have works := works_requestRound hstate hpoint hroom
  rw [show requestRound .sweep s = requestSweepRound s from rfl, requestSweepRound_eq hsweep hnext,
    formRound_eq member] at works
  exact ⟨settle_of_works works (not_busy_of_inRound rfl) (by decide), member⟩

/-- A stop that comes between two rounds halts the runner where it stands (R17, R18). -/
theorem exec_stopFall_between {s : State} (hstop : s.tie.stop = none) (hstate : s.runner.state = .running)
    (hround : s.runner.roundInFlight = false) (hpoint : ∀ held, s.runner.point ≠ .handOut held) :
    ∃ u, exec .stopFall s = .next u ∧ u.runner.state = .halted ∧ u.round = s.round ∧
      u.runner.haltCause = some (s.runner.haltCause.getD .peerStop) ∧ u.runner.stepIndex = s.runner.stepIndex ∧
      u.tie.barrier = s.tie.barrier := by
  have hrunner := enterHalted_runner (some .peerStop) s.peerPulling
  rw [orElse_some_eq_getD] at hrunner
  exact ⟨_, exec_stopFall_halts hstop (.inl ⟨hstate, hround, hpoint⟩), (congrArg Runner.state hrunner).trans rfl,
    enterHalted_round _ _, (congrArg Runner.haltCause hrunner).trans rfl,
    (congrArg Runner.stepIndex hrunner).trans rfl, (congrArg Tie.barrier (enterHalted_tie _ _)).trans rfl⟩

/-! ## A passing at an enlisted station (R16, R132) -/

/-- The rise of the mark line that an enlisted station waits on (R132). -/
theorem exec_barrierPass {s : State} {w : Wait} (hwait : s.tie.wait = some w) (hstate : s.runner.state = .atMark)
    (henlisted : s.tie.enlistment = .enlisted) (peerVeto : Bool) : exec (.barrierPass peerVeto) s =
      .next (afterBarrier w.kind (sampleVeto s.tie w.line peerVeto) s.tie.barrier
        (s.passed w (sampleVeto s.tie w.line peerVeto) w.waited)) := by
  have idle : s.busy = false := not_busy_of_state (by simp [hstate])
  simp [exec, execBarrierPass, settle_of_not_busy idle, barrierEvent, hwait, State.isEnlisted, henlisted,
    passBarrier_eq]

/-- The veto sampled at a barrier that is no trial's: another station's pull or the held veto (R132). -/
theorem sampleVeto_of_not_trial {t : Tie} {w : Wait} (hwait : t.wait = some w) (hkind : w.kind ≠ .trial)
    (peerVeto : Bool) : sampleVeto t w.line peerVeto =
      if peerVeto = true ∨ t.heldVeto = some w.line then .fail else .pass := by
  simp [sampleVeto, Tie.vetoDrive, hwait, hkind]

/-- The veto sampled at a trial's barrier: another station's pull, the own vote or the held veto (R132). -/
theorem sampleVeto_of_trial {t : Tie} {w : Wait} (hwait : t.wait = some w) (hkind : w.kind = .trial)
    (peerVeto : Bool) : sampleVeto t w.line peerVeto =
      if peerVeto = true ∨ t.vote = some .fail ∨ t.heldVeto = some w.line then .fail else .pass := by
  simp [sampleVeto, Tie.vetoDrive, hwait, hkind, or_comm]

/-- A passed START barrier leads to the boundary before step 0, a passed RENDEZVOUS to the one past its step (R16). -/
theorem afterBarrier_boundary {kind : BarrierKind} {s : State}
    (h : kind = .start ∨ kind = .rendezvous ∧ s.search = none ∧ s.runner.stepIndex < 255) (sampled : Verdict)
    (barrier : Nat) : afterBarrier kind sampled barrier s =
      { s with runner := { s.runner with
          stepIndex := if kind = .start then s.runner.stepIndex else s.runner.stepIndex + 1
          point := .boundary } } := by
  rcases h with rfl | ⟨rfl, hsearch, hindex⟩
  · rfl
  · show workDone s = _
    rw [workDone_of_noSearch hsearch, goTo_of_lt (by omega)]
    rfl

/-- The mark record of a barrier that is no trial's (R142). -/
theorem markPassedRecord_eq {s : State} {kind : BarrierKind} (h : kind ≠ .trial) (sampled : Verdict) (waited : Nat) :
    markPassedRecord kind sampled waited s =
      { barrier := s.tie.barrier, kind := kind, step := s.runner.stepIndex
        label := if kind = .start then none
          else some (((stepAt s.plan s.runner.stepIndex).map PlanStep.label).getD 0)
        vote := none, sampled := sampled, waited := min (waited / 1000) 65535 } := by
  cases kind <;> simp_all [markPassedRecord, currentLabel]

/-- A passed barrier that is no trial's releases the held veto (R132). -/
theorem Tie.pass_of_not_trial {w : Wait} (h : w.kind ≠ .trial) (t : Tie) (sampled : Verdict) : t.pass w sampled =
    { t with wait := none, timer := none, heldVeto := none, barrier := (t.barrier + 1) % 65536
             sampledVeto := some sampled } := by
  simp [Tie.pass, h]

end Sys2Proof.Machine

open Sys2Proof Sys2Proof.Machine

/-- Settles O44: the site's part ends or its data part begins; with the last part the round ends, and the sweep with its
last round. -/
theorem readySitesGoOn : Obligations.ReadySitesGoOn := by
  refine ⟨?_, ?_, ?_⟩
  · intro s i r p pre status hround hwork htrial hwaiting hphase hport hmatch hcount hok hothers hsettled hidle
    have ready := statusLive_ready (r := r) hport (status := status) (by simp [statusMatches, hwork, hmatch]) hcount
      (by simp [roundMatchCount, hwork])
    have ok : opFailed s.setup status = false := by simp [opFailed, hok]
    have live := exec_statusResult_live status hround hport hwaiting hphase hidle
    refine ⟨fun hkind => ?_, fun hkind => ?_⟩
    · rw [live, ready, siteReady_done hwork hkind ok, endPart_readyAt_of_others hwaiting hsettled hothers]
      rfl
    · rw [live, ready, siteReady_read hwork hkind ok, beginData_eq htrial]
      refine ⟨_, rfl, rfl, Table.get_set_self _ _ _, Table.get_set_self _ _ _, Table.get_set_self _ _ _,
        Table.get_set_self _ _ _, fun w page hsweep hpage => ?_, fun j hj => ?_⟩
      · simp [hsweep, streamStart_of_page hpage]
      · exact ⟨Table.get_set_ne _ _ hj.symm, Table.get_set_ne _ _ hj.symm, Table.get_set_ne _ _ hj.symm,
          Table.get_set_ne _ _ hj.symm, Table.get_set_ne _ _ hj.symm⟩
  · intro s i r mask expected status count deadline hround hwork hwaiting hphase hport hmatch hcount hothers hsettled
      hidle
    rw [exec_statusResult_live status hround hport hwaiting hphase hidle,
      statusLive_ready hport (by simp [statusMatches, hwork, hmatch]) hcount (by simp [roundMatchCount, hwork]),
      siteReady_poll hwork, endPart_readyAt_of_others hwaiting hsettled hothers]
    rfl
  · intro s i r p pre status w hround hwork hkind hwaiting hphase hport hmatch hcount hok hlast hstop hstate hpoint
      hsweep hposition hsearch ended
    have ends := exec_statusResult_last hround hwork hkind hwaiting hphase hport hmatch hcount hok hlast hstop
      hstate hpoint
    refine ⟨_, ends, fun q hq => ?_, fun hq hindex => ?_, fun hindex => ?_⟩
    · rw [sweepRoundEnded_next (s := s.lastPartOver i s.setup.matchCount) hsweep hposition hq]
      refine ⟨rfl, fun hroom hlisted => ?_⟩
      obtain ⟨settled, member⟩ := settle_sweepRound (i := i)
        (s := (s.lastPartOver i s.setup.matchCount).sweepGoesOn w q) hstate rfl hroom rfl rfl hlisted
        (congrArg Site.state (Table.get_set_self _ _ _))
      rw [settled]
      exact ⟨rfl, ⟨_, rfl, rfl, member⟩, congrArg Site.state (State.formed_participant member).1⟩
    · rw [sweepRoundEnded_last (s := s.lastPartOver i s.setup.matchCount) hsweep hposition hq hsearch hindex]
      rfl
    · cases hq : successorOf w.fields p with
      | some q =>
        rw [sweepRoundEnded_next (s := s.lastPartOver i s.setup.matchCount) hsweep hposition hq]
        obtain ⟨u, hu, hhalted, hover, hcause, hindex', _⟩ :=
          exec_stopFall_between (s := (s.lastPartOver i s.setup.matchCount).sweepGoesOn w q) hstop hstate rfl
            (by simp [State.sweepGoesOn])
        exact ⟨u, hu, hhalted, hover, hcause, hindex'⟩
      | none =>
        rw [sweepRoundEnded_last (s := s.lastPartOver i s.setup.matchCount) hsweep hposition hq hsearch hindex]
        obtain ⟨u, hu, hhalted, hover, hcause, hindex', _⟩ :=
          exec_stopFall_between (s := (s.lastPartOver i s.setup.matchCount).sweepOver) hstop hstate rfl
            (by simp [State.sweepOver])
        exact ⟨u, hu, hhalted, hover, hcause, hindex'⟩

/-- Settles O51: the passing, what the runner does after it, and the stop that comes next. -/
theorem barrierPassesOnRise : Obligations.BarrierPassesOnRise := by
  intro s peerVeto
  refine ⟨fun idle hwait => ?_, ?_⟩
  · simp [exec, execBarrierPass, settle_of_not_busy idle, barrierEvent, hwait]
  · intro w hwait hstate henlisted hkind sampled
    have notTrial : w.kind ≠ .trial := by rcases hkind with h | ⟨h, _⟩ <;> simp [h]
    have passes := exec_barrierPass hwait hstate henlisted peerVeto
    rw [sampleVeto_of_not_trial hwait notTrial] at passes
    change exec _ s = .next (afterBarrier w.kind sampled _ (s.passed w sampled w.waited)) at passes
    have hlog := State.passed_log w sampled w.waited s
    rw [markPassedRecord_eq notTrial] at hlog
    have htie := State.passed_tie w sampled w.waited s
    have hlink (h) := State.passed_link w sampled w.waited (s := s) h
    rw [afterBarrier_boundary (by rw [State.passed_search, State.passed_runner]; exact hkind)] at passes
    refine ⟨_, passes, ?_, ?_, ?_, fun h => ?_, fun h => ?_, fun hstop hround => ?_⟩
    · rw [State.passed_eq]
    · rw [State.passed_runner]
    · exact htie.trans (Tie.pass_of_not_trial notTrial _ _)
    · exact ⟨by simpa [h] using hlog, hlink h⟩
    · simpa [h] using hlog
    · obtain ⟨u, hu, hhalted, _, _, hindex, hbarrier⟩ := exec_stopFall_between
        (s := { s.passed w sampled w.waited with
          runner := { (s.passed w sampled w.waited).runner with
            stepIndex := if w.kind = .start then (s.passed w sampled w.waited).runner.stepIndex
              else (s.passed w sampled w.waited).runner.stepIndex + 1
            point := .boundary } })
        (by rw [htie]; exact hstop) (by rw [State.passed_runner]) (by rw [State.passed_runner]; exact hround) (by simp)
      exact ⟨u, hu, hhalted, hindex, hbarrier.trans (congrArg Tie.barrier htie)⟩
end

section
/-! PROOFS. WRITE to PLAN, DRAIN, and the layout of a record. -/
namespace Sys2Proof.Machine

/-! ## PLAN (R1, R165) -/

/-- A stored word reads back, and every other word of the Plan Store as before. -/
theorem storePlanWord_get (p : PlanStore) (i : Nat) (w : Word) (r : Fin 256) (k : Fin 16) :
    ((storePlanWord p i w).get r).get k = if i = 16 * r.val + k.val then w else (p.get r).get k := by
  unfold storePlanWord
  split
  · next h =>
    rw [Table.get_modify]
    by_cases hr : i / 16 = r.val
    · rw [if_pos (Fin.ext hr), Table.get_set]
      by_cases hk : i % 16 = k.val
      · rw [if_pos (Fin.ext hk), if_pos (by omega)]
      · rw [if_neg fun e => hk (congrArg Fin.val e), if_neg (by omega)]
    · rw [if_neg fun e => hr (congrArg Fin.val e), if_neg (by omega)]
  · next h => rw [if_neg (by omega)]

/-- The words stored from an index on read back, and every other word as before. -/
theorem storePlan_get (words : List Word) (p : PlanStore) (index : Nat) (r : Fin 256) (k : Fin 16) :
    ((storePlan p index words).get r).get k =
      if index ≤ 16 * r.val + k.val ∧ 16 * r.val + k.val < index + words.length
      then words.getD (16 * r.val + k.val - index) 0 else (p.get r).get k := by
  induction words generalizing p index with
  | nil => rw [storePlan, if_neg (by simp)]
  | cons w rest ih =>
    rw [storePlan, ih, storePlanWord_get, List.length_cons]
    generalize 16 * r.val + k.val = place
    by_cases first : index = place
    · subst first
      simp
    · rw [if_neg first]
      by_cases later : index + 1 ≤ place ∧ place < index + 1 + rest.length
      · obtain ⟨d, rfl⟩ := Nat.exists_eq_add_of_le later.1
        rw [if_pos later, if_pos (by omega), show index + 1 + d - (index + 1) = d by omega,
          show index + 1 + d - index = d + 1 by omega, List.getD_cons_succ]
      · rw [if_neg later, if_neg (by omega)]

/-! ## DRAIN (R150, R167) -/

/-- Outside LOG_STALL the report of headroom changes nothing (R147). -/
theorem reportHeadroom_of_ne {s : State} (h : s.runner.state ≠ .logStall) : reportHeadroom s = s := by
  simp [reportHeadroom, h]

/-- The state in which a stalled runner goes on (R12). -/
def State.unstalled (s : State) : State := { s with runner := { s.runner with state := .running } }

/-- A runner in LOG_STALL goes on when 128 slots are free, and stalls on when they are not (R147). -/
theorem reportHeadroom_of_logStall {s : State} (h : s.runner.state = .logStall) : reportHeadroom s =
    if s.headroomMet = true then s.unstalled else s := by
  simp [reportHeadroom, h, State.unstalled]

theorem drainReply_take (records : List LogRecord) (m : Nat) (h : m ≤ records.length) :
    drainReply (records.take m) = toByte m :: wordsBytes ((records.take m).flatMap LogRecord.words) := by
  simp [drainReply, h]

theorem drainCount_le (r : Ring) (count : Nat) : drainCount r count ≤ r.records.length := Nat.min_le_right _ _

theorem ringCapacity_eq (m : LogMode) : ringCapacity m = if m = .unified then 2048 else 1024 := by cases m <;> rfl

/-- The state after a DRAIN of ring 0, but for what it reports to a stalled runner (R150). -/
def State.drained0 (m : Nat) (s : State) : State :=
  answer .ok (toByte m :: wordsBytes ((s.log.ring0.records.take m).flatMap LogRecord.words))
    { s with log := { s.log with ring0 := s.log.ring0.drop (ringCapacity s.setup.logMode) m } }

/-- The state after a DRAIN of ring 1, but for what it reports to a stalled runner (R150). -/
def State.drained1 (m : Nat) (s : State) : State :=
  answer .ok (toByte m :: wordsBytes ((s.log.ring1.records.take m).flatMap LogRecord.words))
    { s with log := { s.log with ring1 := s.log.ring1.drop (ringCapacity s.setup.logMode) m } }

theorem drainRequest_ring0 {ring : Word} (h : ring.toNat = 0) (count : Nat) (s : State) :
    drainRequest ring count s = reportHeadroom (s.drained0 (drainCount s.log.ring0 count)) := by
  simp only [drainRequest, h, drainRing0, drainReply_take _ _ (drainCount_le _ _)]
  rfl

theorem drainRequest_ring1 {ring : Word} {s : State} (h : ring.toNat = 1) (hmode : s.setup.logMode = .split)
    (count : Nat) : drainRequest ring count s = reportHeadroom (s.drained1 (drainCount s.log.ring1 count)) := by
  simp only [drainRequest, h, hmode, drainRing1, drainReply_take _ _ (drainCount_le _ _), State.drained1]

/-- A ring that does not exist (R150). -/
theorem drainRequest_missing {ring : Word} {s : State}
    (h : 1 < ring.toNat ∨ ring.toNat = 1 ∧ s.setup.logMode = .unified) (count : Nat) :
    drainRequest ring count s = answer .badIndex [] s := by
  rcases h with h | ⟨h, hmode⟩
  · obtain ⟨d, hd⟩ := Nat.exists_eq_add_of_le' h
    simp [drainRequest, hd]
  · simp [drainRequest, h, hmode]

/-- In UNIFIED the headroom condition asks for 128 of 2048 slots (R147). -/
theorem headroomMet_unified {s : State} (h : s.setup.logMode = .unified) :
    s.headroomMet = true ↔ 128 ≤ 2048 - s.log.ring0.records.length := by
  simp [State.headroomMet, h, Ring.free, ringCapacity]

/-! ## Bits of a word -/

theorem toWord_toNat (n : Nat) : (toWord n).toNat = n % 65536 := BitVec.toNat_ofNat n 16

theorem fld_toNat (n shift : Nat) : (fld n shift).toNat = n * 2 ^ shift % 65536 := by
  simp [fld, toWord, BitVec.toNat_shiftLeft, Nat.shiftLeft_eq, Nat.mod_mul_mod]

/-- A field joined to the bits below it. -/
theorem fld_or_toNat {n shift : Nat} {w : Word} (hn : n * 2 ^ shift < 65536) (hw : w.toNat < 2 ^ shift) :
    (fld n shift ||| w).toNat = n * 2 ^ shift + w.toNat := by
  rw [BitVec.toNat_or, fld_toNat, Nat.mod_eq_of_lt hn, Nat.mul_comm, Nat.two_pow_add_eq_or_of_lt hw]

theorem getLsbD_eq_decide (w : Word) (i : Nat) : w.getLsbD i = decide (w.toNat / 2 ^ i % 2 = 1) := by
  rw [← BitVec.testBit_toNat, Nat.testBit_eq_decide_div_mod_eq]

theorem joined_three (a b c : Word) : joined [a, b, c] = a ||| (b ||| c) := by
  simp [joined, BitVec.or_assoc]

/-- Three fields joined, each with room above the ones below it. -/
theorem joined_three_toNat {a i b j c : Nat} (ha : a * 2 ^ i < 65536) (hb : b * 2 ^ j < 2 ^ i) (hc : c < 2 ^ j)
    (hj : 2 ^ j ≤ 65536) (hi : 2 ^ i ≤ 65536) (hbc : b * 2 ^ j + c < 2 ^ i) :
    (joined [fld a i, fld b j, toWord c]).toNat = a * 2 ^ i + (b * 2 ^ j + c) := by
  have low : (toWord c).toNat = c := (toWord_toNat c).trans (Nat.mod_eq_of_lt (by omega))
  have mid : (fld b j ||| toWord c).toNat = b * 2 ^ j + c := by rw [fld_or_toNat (by omega) (by omega), low]
  rw [joined_three, fld_or_toNat ha (by omega), mid]

theorem pack_bytesAre (high low : Nat) : bytesAre (pack high low) high low := by
  simp only [bytesAre, bitsOf, pack, toWord_toNat]
  omega

/-! ## The layout of a record (R174) -/

/-- Three flags as the presence bits of a record. -/
theorem presence_testBit (a b c : Bool) : (bit a + 2 * bit b + 4 * bit c).testBit 0 = a ∧
    (bit a + 2 * bit b + 4 * bit c).testBit 1 = b ∧ (bit a + 2 * bit b + 4 * bit c).testBit 2 = c := by
  cases a <;> cases b <;> cases c <;> decide

theorem presence_lt (a b c : Bool) : bit a + 2 * bit b + 4 * bit c < 8 := by
  cases a <;> cases b <;> cases c <;> decide

theorem RecordBody.presence_lt (b : RecordBody) : b.presence < 8 := by
  cases b with
  | pageFail r => exact Machine.presence_lt _ _ _
  | trialResult r => exact Machine.presence_lt _ _ _
  | markPassed r => exact Machine.presence_lt _ _ false
  | searchResult r => exact Machine.presence_lt _ _ false
  | siteRejected r => exact Machine.presence_lt _ _ false
  | blockBad r => exact Machine.presence_lt _ false false
  | _ => exact Machine.presence_lt false false false

theorem RecordBody.code_lt (b : RecordBody) : b.code < 16 := by cases b <;> simp [RecordBody.code]

theorem RecordBody.words_length_le (b : RecordBody) : b.words.length ≤ 6 := by
  cases b <;> simp [RecordBody.words, PageFailRec.words]

/-- The first word of a record as a number: the kind code, the station and the presence bits. -/
theorem LogRecord.header_toNat (r : LogRecord) :
    (r.words.getD 0 0).toNat = r.body.code * 256 + (r.station.toNat * 16 + r.body.presence) := by
  have code := r.body.code_lt
  have presence := r.body.presence_lt
  have station := r.station.isLt
  exact joined_three_toNat (i := 8) (j := 4) (by omega) (by omega) (by omega) (by omega) (by omega) (by omega)

/-- The first word shows the kind code, the station and the presence bits (R174). -/
theorem LogRecord.header_shows (r : LogRecord) :
    bitsOf (r.words.getD 0 0) 15 8 = r.body.code ∧ bitsOf (r.words.getD 0 0) 7 4 = r.station.toNat ∧
      bitsOf (r.words.getD 0 0) 3 0 = r.body.presence ∧
      ∀ k, k < 4 → (r.words.getD 0 0).getLsbD k = r.body.presence.testBit k := by
  have code := r.body.code_lt
  have presence := r.body.presence_lt
  have station := r.station.isLt
  refine ⟨?_, ?_, ?_, fun k hk => ?_⟩
  iterate 3
    · simp only [bitsOf, r.header_toNat]
      omega
  · rw [getLsbD_eq_decide, r.header_toNat, Nat.testBit_eq_decide_div_mod_eq]
    congr 2
    interval_cases k <;> omega

/-- The words of a record: its header, its sequence number, its fields and zeros up to eight words. -/
theorem LogRecord.words_length (r : LogRecord) : r.words.length = 8 := by
  have := r.body.words_length_le
  simp [LogRecord.words]
  omega

/-- A field's number counts modulo the room above its place. -/
theorem fld_mod (n : Nat) {shift : Nat} (h : shift ≤ 16) : fld n shift = fld (n % 2 ^ (16 - shift)) shift := by
  have room : 65536 = 2 ^ (16 - shift) * 2 ^ shift := by
    rw [← pow_add, Nat.sub_add_cancel h]
    norm_num
  refine BitVec.eq_of_toNat_eq ?_
  rw [fld_toNat, fld_toNat, room, Nat.mul_mod_mul_right, Nat.mul_mod_mul_right, Nat.mod_mod]

theorem codeIn_haltCodes (c : HaltCause) : codeIn haltCodes c = c.code := by cases c <;> rfl

theorem codeIn_conditionCodes (c : Condition) : codeIn conditionCodes c = c.bit := by cases c <;> rfl

/-- The words of a PAGE_FAIL_REC show its fields (R174). -/
theorem LogRecord.pageFail_shows (r : PageFailRec) (sequence : Nat) (station : BitVec 4) :
    let record : LogRecord := { sequence := sequence, station := station, body := .pageFail r }
    r.Shows fun k => record.words.getD k 0 := by
  intro record
  obtain ⟨_, _, _, hbits⟩ := record.header_shows
  have present := presence_testBit r.page.isSome r.filter.isSome r.trialCode.isSome
  have site := r.site.isLt
  have source : codeIn [Source.readData, .eraseStatus, .programStatus, .readStatus] r.source = r.source.code ∧
      r.source.code < 4 := by cases r.source <;> exact ⟨rfl, by decide⟩
  have w2 : (record.words.getD 2 0).toNat =
      r.site.val * 2048 + (codeOr r.filter % 4 * 512 + r.step % 256) :=
    joined_three_toNat (i := 11) (j := 9) (by omega) (by omega) (by omega) (by omega) (by omega) (by omega)
  have w3 : (record.words.getD 3 0).toNat =
      r.outcome.bit % 4 * 16384 + (r.source.code * 4096 + r.block % 4096) := by
    show (joined [fld r.outcome.bit 14, _, _]).toNat = _
    rw [fld_mod _ (by omega)]
    exact joined_three_toNat (i := 14) (j := 12) (by omega) (by omega) (by omega) (by omega) (by omega) (by omega)
  have w4 : (record.words.getD 4 0).toNat =
      codeOr (r.figures.map PageOutcome.overCount) % 128 * 512 + codeOr r.page % 512 := by
    have low := toWord_toNat (codeOr r.page % 512)
    show (fld _ 9 ||| toWord _).toNat = _
    rw [fld_mod _ (by omega), fld_or_toNat (by omega) (by omega), low]
    omega
  refine ⟨(hbits 0 (by omega)).trans present.1, (hbits 1 (by omega)).trans present.2.1,
    (hbits 2 (by omega)).trans present.2.2, ?_, ?_, ?_, ?_, ?_, ?_, ?_, ?_, fun f hf => ?_, fun x hf hx => ?_, ?_,
    pack_bytesAre _ _⟩
  iterate 3
    · simp only [bitsOf, w2, shown, codeOr]
      omega
  · simp only [bitsOf, w3, codeIn_conditionCodes]
    omega
  · simp only [bitsOf, w3, source.1]
    omega
  · simp only [bitsOf, w3]
    omega
  iterate 2
    · simp only [bitsOf, w4, shown, codeOr]
      omega
  · show (toWord (codeOr ((r.figures.map PageOutcome.worstTally) <|> _))).toNat = _
    rw [hf]
    exact toWord_toNat _
  · show (toWord (codeOr ((r.figures.map PageOutcome.worstTally) <|> r.status.map BitVec.toNat))).toNat = _
    rw [hf, hx]
    exact (toWord_toNat _).trans (Nat.mod_eq_of_lt (by have := x.isLt; show x.toNat < 65536; omega))
  · exact toWord_toNat _

/-- The word of a MARK_PASSED record with the barrier's kind, the vote and the sampled veto (R174). -/
theorem markWord_shows (kind : BarrierKind) (vote : Option Verdict) (sampled : Verdict) :
    let w := joined [toWord kind.code, fld (codeOr (vote.map Verdict.code)) 8, fld sampled.code 9]
    bitsOf w 1 0 = codeIn [BarrierKind.start, .rendezvous, .trial] kind ∧
      w.getLsbD 8 = (vote == some .fail) ∧ w.getLsbD 9 = (sampled == .fail) := by
  cases kind <;> cases sampled <;> rcases vote with _ | _ | _ <;> decide

/-- The word of a TRIAL_RESULT record with the verdict and the local vote (R174). -/
theorem verdictWord_shows (verdict : Verdict) (vote : Option Verdict) :
    let w := toWord verdict.code ||| fld (codeOr (vote.map Verdict.code)) 1
    w.getLsbD 0 = (verdict == .fail) ∧ w.getLsbD 1 = (vote == some .fail) := by
  cases verdict <;> rcases vote with _ | _ | _ <;> decide

/-- The low byte of a SEARCH_RESULT's last word shows the scope (R174). -/
theorem scopeWord_shows (trials : Nat) (scope : Scope) :
    (pack trials scope.code).getLsbD 0 = (scope == .mainframe) := by
  rw [getLsbD_eq_decide, pack, toWord_toNat]
  cases scope with
  | site => exact decide_eq_false (by simp only [Scope.code]; omega)
  | mainframe => exact decide_eq_true (by simp only [Scope.code]; omega)

/-- The words of a record show its kind, presence bits, station, sequence number and fields (R174). -/
theorem LogRecord.shows (r : LogRecord) : r.Shows := by
  obtain ⟨sequence, station, body⟩ := r
  obtain ⟨hcode, hstation, hpresence, hbits⟩ := LogRecord.header_shows ⟨sequence, station, body⟩
  refine ⟨LogRecord.words_length _, hstation, toWord_toNat _, ?_⟩
  cases body with
  | pageFail r => exact ⟨hcode, LogRecord.pageFail_shows r sequence station⟩
  | runStart =>
    refine ⟨hcode, hpresence, fun k _ _ => ?_⟩
    interval_cases k <;> rfl
  | stepBegin step label =>
    refine ⟨hcode, hpresence, pack_bytesAre _ _, fun k _ _ => ?_⟩
    interval_cases k <;> rfl
  | markerRec step label =>
    refine ⟨hcode, hpresence, pack_bytesAre _ _, fun k _ _ => ?_⟩
    interval_cases k <;> rfl
  | markPassed r =>
    have present := presence_testBit r.label.isSome r.vote.isSome false
    obtain ⟨hkind, hvote, hsampled⟩ := markWord_shows r.kind r.vote r.sampled
    refine ⟨hcode, (hbits 0 (by omega)).trans present.1, (hbits 1 (by omega)).trans present.2.1, pack_bytesAre _ _,
      toWord_toNat _, hkind, hvote, hsampled, toWord_toNat _, fun k _ _ => ?_⟩
    interval_cases k <;> rfl
  | trialResult r =>
    have present := presence_testBit r.site.isSome r.localVote.isSome r.barrier.isSome
    obtain ⟨hverdict, hvote⟩ := verdictWord_shows r.verdict r.localVote
    refine ⟨hcode, (hbits 0 (by omega)).trans present.1, (hbits 1 (by omega)).trans present.2.1,
      (hbits 2 (by omega)).trans present.2.2, pack_bytesAre _ _, pack_bytesAre _ _, hverdict, hvote, toWord_toNat _,
      fun k _ _ => ?_⟩
    interval_cases k <;> rfl
  | searchResult r =>
    have present := presence_testBit r.code.isSome r.trim.isSome false
    refine ⟨hcode, (hbits 0 (by omega)).trans present.1, (hbits 1 (by omega)).trans present.2.1, pack_bytesAre _ _,
      pack_bytesAre _ _, (pack_bytesAre r.trials r.scope.code).1, scopeWord_shows _ _, fun k _ _ => ?_⟩
    interval_cases k <;> rfl
  | blockBad r =>
    have present := presence_testBit r.page.isSome false false
    have cause : codeIn [ListCause.pageFail, .opFail] r.cause = r.cause.code := by cases r.cause <;> rfl
    refine ⟨hcode, (hbits 0 (by omega)).trans present.1, pack_bytesAre _ _, toWord_toNat _, toWord_toNat _, ?_,
      fun k _ _ => ?_⟩
    · rw [cause]
      exact pack_bytesAre _ _
    · interval_cases k <;> rfl
  | siteRejected r =>
    have present := presence_testBit r.block.isSome r.page.isSome false
    refine ⟨hcode, (hbits 0 (by omega)).trans present.1, (hbits 1 (by omega)).trans present.2.1, pack_bytesAre _ _,
      ?_, toWord_toNat _, toWord_toNat _, fun k _ _ => ?_⟩
    · refine (toWord_toNat _).trans ?_
      cases r.cause <;> rfl
    · interval_cases k <;> rfl
  | halted cause step barrier =>
    refine ⟨hcode, hpresence, ?_, toWord_toNat _, fun k _ _ => ?_⟩
    · rw [funext codeIn_haltCodes]
      exact pack_bytesAre _ _
    · interval_cases k <;> rfl
  | runEnd step way =>
    have ended : codeIn [EndWay.endStep, .planExhausted] way = way.code := by cases way <;> rfl
    refine ⟨hcode, hpresence, ?_, fun k _ _ => ?_⟩
    · rw [ended]
      exact pack_bytesAre _ _
    · interval_cases k <;> rfl

end Sys2Proof.Machine

open Sys2Proof Sys2Proof.Machine

/-- Settles O29: the refusals in R164's order, then each word by its place. -/
theorem planWriteStoresWords : Obligations.PlanWriteStoresWords := by
  intro s index words takes h1 h2
  have request : exec (.write 1 index words) s = .next (planWriteRequest index.toNat words s) :=
    exec_write takes 1 index h1 h2
  refine ⟨fun past => ?_, fun within hquiet => ?_, fun within hquiet => ⟨_, request, ?_⟩⟩
  · rw [request, planWriteRequest, if_pos past]
  · rw [request, planWriteRequest, if_neg (by omega), if_pos (by simp [hquiet])]
  · rw [planWriteRequest, if_neg (by omega), if_neg (by simp [hquiet])]
    exact ⟨rfl, storePlan_get words s.plan index.toNat⟩

/-- Settles O32: each ring's reply and what is left of it, then a stalled runner by the room left, then the layout of
every record. -/
theorem drainRemovesOldest : Obligations.DrainRemovesOldest := by
  refine ⟨?_, ?_, LogRecord.shows⟩
  · intro s ring count takes hstate h1 h2
    rw [exec_drain takes ring h1 h2]
    refine ⟨fun missing => ?_, fun zero => ?_, fun one hmode => ?_⟩
    · rw [drainRequest_missing missing]
    · rw [drainRequest_ring0 zero, reportHeadroom_of_ne (by exact hstate), State.drained0, ringCapacity_eq]
      rfl
    · rw [drainRequest_ring1 one hmode, reportHeadroom_of_ne (by exact hstate), State.drained1, hmode]
      rfl
  · intro s count takes hstate hmode h1 h2 hlength m
    have reply : exec (.drain 0 count) s = .next (reportHeadroom (s.drained0 m)) := by
      rw [exec_drain takes 0 h1 h2, drainRequest_ring0 rfl]
      rfl
    have stalled : (s.drained0 m).runner.state = .logStall := hstate
    have capacity : ringCapacity s.setup.logMode = 2048 := by rw [hmode]; rfl
    have met : (s.drained0 m).headroomMet = true ↔ s.log.ring0.records.length - m ≤ 1920 := by
      rw [headroomMet_unified (s := s.drained0 m) hmode]
      simp only [State.drained0, answer_log, Ring.drop, List.length_drop]
      omega
    rw [reportHeadroom_of_logStall stalled] at reply
    refine ⟨_, reply, ?_, fun room => ?_, fun short => ?_⟩
    · split <;> simp [State.unstalled, State.drained0, answer, Ring.drop, capacity]
    · rw [if_pos (met.mpr room)]
      refine ⟨rfl, fun hpoint hpause => ?_⟩
      have paused : settle (s.drained0 m).unstalled = enterPaused (s.drained0 m).unstalled :=
        settle_of_works (works_enterPaused rfl hpoint hpause) (not_busy_of_state (by simp [enterPaused, setCause]))
          (by decide)
      rw [paused]
      exact ⟨rfl, hasCause_setCause .paused _⟩
    · rw [if_neg (fun room => by have := met.mp room; omega)]
      rfl
end

section
/-! PROOFS. The trials of a search: their beginning, their close and the passing of their barriers. -/
namespace Sys2Proof.Machine

/-! ## One piece of work as a step -/

/-- On an empty queue a step is one piece of the runner's work where it has work at hand. -/
theorem step_of_busy {s : State} (hpending : s.pending = []) (hbusy : s.busy = true) : step s = .next (advance s) := by
  rcases idle_cases s with ⟨_, e⟩ | ⟨e, _⟩
  · simp [step, hpending, e]
  · simp [hbusy] at e

theorem step_of_close {s : State} (hpending : s.pending = []) (hstate : s.runner.state = .running)
    (hpoint : s.runner.point = .close) : step s = .next (closeTrial s) := by
  rw [step_of_busy hpending (by simp [State.busy, hstate, hpoint]), advance, hpoint]

theorem step_of_begin {s : State} (hpending : s.pending = []) (hstate : s.runner.state = .running)
    (hpoint : s.runner.point = .begin) : step s = .next (beginStep s) := by
  rw [step_of_busy hpending (by simp [State.busy, hstate, hpoint]), advance, hpoint]

/-! ## The values of a trial (R109, R114) -/

/-- A FAIL raises the value in trials 1 to W, and nothing else moves it (R114). -/
theorem valueAfter_eq (bits trial r : Nat) (v : Verdict) :
    valueAfter bits trial r v = if v = .fail ∧ trial ≤ bits then r + 2 ^ (bits - trial) else r := by
  cases v <;> simp [valueAfter]

/-- The code of a value: itself, or its mirror under DESCENDING (R109, R116). -/
theorem codeOf_eq (f : SearchFields) (value : Nat) :
    codeOf f value = if f.polarity = .ascending then value else 2 ^ f.bits - 1 - value := by
  cases h : f.polarity <;> simp [codeOf, h, maxValue]

theorem SiteSet.has_zero (i : SiteId) : SiteSet.has 0#32 i = false := by simp [SiteSet.has]

theorem SiteSet.ne_zero_of_has {x : SiteSet} {i : SiteId} (h : x.has i = true) : x ≠ 0 := by
  rintro rfl
  simp [SiteSet.has_zero] at h

/-! ## The decision in MAINFRAME scope (R114, R116, R119) -/

/-- Whether a further trial follows in MAINFRAME scope, the value having been moved (R114). -/
def Search.goesFurther (c : Search) : Prop :=
  c.trial < c.fields.bits ∨ c.trial = c.fields.bits ∧ c.stationValue = 2 ^ c.fields.bits - 1

/-- The result code that the member sites share in MAINFRAME scope (R116). -/
def Search.stationResult (c : Search) (combined : Verdict) : Option Nat :=
  if c.stationValue = 2 ^ c.fields.bits - 1 ∧ combined = .fail then none
  else some (if c.fields.polarity = .ascending then c.stationValue else 2 ^ c.fields.bits - 1 - c.stationValue)

theorem resultCode_mainframe {c : Search} {combined : Verdict} (hscope : c.fields.scope = .mainframe)
    (hcombined : c.combined = some combined) (i : SiteId) (s : State) :
    resultCode c i s = c.stationResult combined := by
  simp [resultCode, hscope, hcombined, Search.stationResult, codeOf_eq, maxValue]

/-- The results of a search of MAINFRAME scope as they are formed (R116, R118). -/
def Search.withStationResults (c : Search) (combined : Verdict) : Search :=
  { c with
    phase := .final
    outstanding := c.members
    results := Table.ofFn fun i => if c.members.has i then c.stationResult combined else none }

theorem formResults_mainframe {c : Search} {combined : Verdict} (hscope : c.fields.scope = .mainframe)
    (hcombined : c.combined = some combined) (s : State) : c.formResults s = c.withStationResults combined := by
  simp only [Search.formResults, resultCode_mainframe hscope hcombined, Search.withStationResults]

/-- Without a member site no site has a result. -/
theorem anyResult_of_noMember {c : Search} (combined : Verdict) (h : c.members = 0) :
    anyResult (c.withStationResults combined) = false := by
  simp [anyResult, Search.withStationResults, h, SiteSet.has_zero]

/-- The state in which the handing out of the results in `d` begins (R118). -/
def State.handingOut (d : Search) (s : State) : State :=
  { s with search := some d, runner := { s.runner with point := .handOut none } }

/-- The state in which the search `c` is complete (R119). -/
def State.searchOver (c : Search) (s : State) : State :=
  { s with search := none
           runner := { s.runner with stepIndex := c.step + c.fields.body + 1, point := .boundary } }

/-- The end of the trials with a member site left: the handing out begins (R118). -/
theorem finishTrials_members {c : Search} {combined : Verdict} (hscope : c.fields.scope = .mainframe)
    (hcombined : c.combined = some combined) (hmembers : c.members ≠ 0) (s : State) :
    finishTrials c s = s.handingOut (c.withStationResults combined) := by
  simp only [finishTrials, formResults_mainframe hscope hcombined]
  rcases handOutOn_cases (c.withStationResults combined) (s.handingOut (c.withStationResults combined)) with
    ⟨none, _⟩ | ⟨_, e⟩
  · exact absurd none hmembers
  · exact e

/-- Results that hold none, with no site's handling to come, complete the search (R119). -/
theorem handOutOn_handingOut {d : Search} (houtstanding : d.outstanding = 0) (hresults : anyResult d = false)
    (s : State) : handOutOn d (s.handingOut d) = completeSearch (s.handingOut d) := by
  simp [handOutOn, houtstanding, afterResults, State.handingOut, hresults]

/-- The end of the trials with no member site left: the search is complete (R119, R120). -/
theorem finishTrials_noMember {c : Search} {combined : Verdict} (hscope : c.fields.scope = .mainframe)
    (hcombined : c.combined = some combined) (hmembers : c.members = 0) (hend : c.step + c.fields.body < 255)
    (s : State) : finishTrials c s = s.searchOver c := by
  have complete : completeSearch (s.handingOut (c.withStationResults combined)) =
      goTo (c.step + c.fields.body + 1) { s.handingOut (c.withStationResults combined) with search := none } := rfl
  rw [goTo_of_lt (by omega)] at complete
  simp only [finishTrials, formResults_mainframe hscope hcombined]
  exact (handOutOn_handingOut (d := c.withStationResults combined) hmembers
    (anyResult_of_noMember combined hmembers) s).trans complete

/-- The decision after the close of a trial in MAINFRAME scope: a further trial, the handing out, or the search's
completion (R114, R118, R119). -/
theorem decideNext_mainframe_cases {c : Search} {combined : Verdict} (hscope : c.fields.scope = .mainframe)
    (hcombined : c.combined = some combined) (hend : c.members = 0 → c.step + c.fields.body < 255) (s : State) :
    (c.goesFurther ∧
      decideNext c s = nextTrial c (if c.trial < c.fields.bits then c.trialSet else c.members) s) ∨
    (¬ c.goesFurther ∧ c.members ≠ 0 ∧ decideNext c s = s.handingOut (c.withStationResults combined)) ∨
    (¬ c.goesFurther ∧ c.members = 0 ∧ decideNext c s = s.searchOver c) := by
  by_cases further : c.goesFurther
  · refine .inl ⟨further, ?_⟩
    rcases further with before | ⟨last, top⟩
    · simp [decideNext, before]
    · simp [decideNext, last, hscope, top, maxValue]
  · have finished : decideNext c s = finishTrials c s := by
      obtain ⟨notBefore, notTop⟩ := not_or.mp further
      by_cases last : c.trial = c.fields.bits
      · have top : c.stationValue ≠ 2 ^ c.fields.bits - 1 := fun h => notTop ⟨last, h⟩
        simp [decideNext, last, hscope, maxValue, top]
      · simp [decideNext, notBefore, last]
    by_cases hmembers : c.members = 0
    · exact .inr (.inr ⟨further, hmembers, finished.trans
        (finishTrials_noMember hscope hcombined hmembers (hend hmembers) s)⟩)
    · exact .inr (.inl ⟨further, hmembers, finished.trans (finishTrials_members hscope hcombined hmembers s)⟩)

/-! ## The passing of a trial's barrier (R113, R115) -/

/-- The context after the combined verdict has moved the value (R114). -/
def Search.judged (c : Search) (combined : Verdict) : Search :=
  { c with combined := some combined, stationValue := valueAfter c.fields.bits c.trial c.stationValue combined }

/-- The TRIAL_RESULT record of a trial of MAINFRAME scope (R115). -/
def Search.stationRecord (c : Search) (combined : Verdict) (barrier : Nat) : TrialResultRec :=
  { step := c.step, site := none, trial := c.trial, code := c.stationCode.getD 0, verdict := combined
    localVote := c.localVote, barrier := some barrier }

theorem trialPassed_eq {s : State} {c : Search} (hsearch : s.search = some c) (combined : Verdict) (barrier : Nat) :
    trialPassed combined barrier s = decideNext (c.judged combined)
      (offer (.trialResult (c.stationRecord combined barrier)) { s with search := some (c.judged combined) }) := by
  simp [trialPassed, hsearch, Search.judged, Search.stationRecord]

/-- The passing of a trial's barrier changes the runner, the search, the log and the causes. -/
theorem trialPassed_frame {s : State} {c : Search} (hsearch : s.search = some c)
    (hscope : c.fields.scope = .mainframe) (hend : c.members = 0 → c.step + c.fields.body < 255) (combined : Verdict)
    (barrier : Nat) : trialPassed combined barrier s =
      { s with
        runner := (trialPassed combined barrier s).runner
        search := (trialPassed combined barrier s).search
        log := (trialPassed combined barrier s).log
        link := { s.link with causes := (trialPassed combined barrier s).link.causes } } := by
  rw [trialPassed_eq hsearch]
  rcases decideNext_mainframe_cases (c := c.judged combined) hscope rfl hend
    (offer (.trialResult (c.stationRecord combined barrier)) { s with search := some (c.judged combined) }) with
    ⟨_, e⟩ | ⟨_, _, e⟩ | ⟨_, _, e⟩
  · rw [e, nextTrial, offer_frame]
  · rw [e, State.handingOut, offer_frame]
  · rw [e, State.searchOver, offer_frame]

/-- What a trial of MAINFRAME scope leaves at its close: `u` is the state in which the barrier has been passed, with the
log, the Setup fields and the station of `s`, and its runner, the point apart, RUNNING. -/
theorem trialPassed_closes {s u : State} {c : Search} (hsearch : u.search = some c)
    (hscope : c.fields.scope = .mainframe) (hend : c.members = 0 → c.step + c.fields.body < 255)
    (hlog : u.log = s.log) (hsetup : u.setup = s.setup) (hstation : u.tie.station = s.tie.station)
    (hrunner : ∃ p, u.runner = { s.runner with state := .running, point := p }) (combined : Verdict) :
    s.TrialCloses (trialPassed combined s.tie.barrier u) c combined := by
  obtain ⟨point, hrunner⟩ := hrunner
  have record := offer_log_congr (.trialResult (c.stationRecord combined s.tie.barrier))
    (s := { u with search := some (c.judged combined) }) (t := s) hlog hsetup hstation
  have value : (c.judged combined).stationValue = if combined = .fail ∧ c.trial ≤ c.fields.bits then
      c.stationValue + 2 ^ (c.fields.bits - c.trial) else c.stationValue := valueAfter_eq _ _ _ _
  rw [trialPassed_eq hsearch]
  unfold State.TrialCloses
  rw [← value]
  rcases decideNext_mainframe_cases (c := c.judged combined) hscope rfl hend
    (offer (.trialResult (c.stationRecord combined s.tie.barrier)) { u with search := some (c.judged combined) }) with
    ⟨further, e⟩ | ⟨done, hmembers, e⟩ | ⟨done, hmembers, e⟩
  all_goals rw [e]
  · refine ⟨record, fun _ => ⟨?_, rfl⟩, fun h => absurd further h, fun h => absurd further h⟩
    simp [nextTrial, hrunner, Search.judged]
  · refine ⟨record, fun h => absurd h done, fun _ _ => ⟨?_, rfl⟩, fun _ h => absurd h hmembers⟩
    simp [State.handingOut, hrunner]
  · refine ⟨record, fun h => absurd h done, fun _ h => absurd hmembers h, fun _ _ => ⟨?_, rfl⟩⟩
    simp [State.searchOver, hrunner, Search.judged]

/-- The state in which a passing has offered its mark record, if Setup asks for it (R142). -/
def State.marked (record : MarkPassedRec) (s : State) : State :=
  if s.setup.markRecord = true then offer (.markPassed record) s else s

@[simp] theorem State.marked_setup (record : MarkPassedRec) (s : State) : (s.marked record).setup = s.setup := by
  unfold State.marked
  split <;> simp

@[simp] theorem State.marked_tie (record : MarkPassedRec) (s : State) : (s.marked record).tie = s.tie := by
  unfold State.marked
  split <;> simp

@[simp] theorem State.marked_runner (record : MarkPassedRec) (s : State) : (s.marked record).runner = s.runner := by
  unfold State.marked
  split <;> simp

theorem State.marked_log (record : MarkPassedRec) (s : State) :
    (s.marked record).log = if s.setup.markRecord then (offer (.markPassed record) s).log else s.log := by
  unfold State.marked
  split <;> rfl

/-- What a passed trial barrier leaves as it was. -/
theorem passed_trial_frame {v : State} {c : Search} (hsearch : v.search = some c) (hscope : c.fields.scope = .mainframe)
    (hend : c.members = 0 → c.step + c.fields.body < 255) (w : Wait) (sampled : Verdict) (waited barrier : Nat) :
    trialPassed sampled barrier (v.passed w sampled waited) =
      { v with
        runner := (trialPassed sampled barrier (v.passed w sampled waited)).runner
        tie := (trialPassed sampled barrier (v.passed w sampled waited)).tie
        search := (trialPassed sampled barrier (v.passed w sampled waited)).search
        log := (trialPassed sampled barrier (v.passed w sampled waited)).log
        link := { v.link with
          causes := (trialPassed sampled barrier (v.passed w sampled waited)).link.causes } } := by
  rw [trialPassed_frame ((State.passed_search _ _ _ _).trans hsearch) hscope hend, State.passed_eq]

/-- The Tie Port after a passed trial barrier is that after the passing. -/
theorem passed_trial_tie {v : State} {c : Search} (hsearch : v.search = some c) (hscope : c.fields.scope = .mainframe)
    (hend : c.members = 0 → c.step + c.fields.body < 255) (w : Wait) (sampled : Verdict) (waited barrier : Nat) :
    (trialPassed sampled barrier (v.passed w sampled waited)).tie = v.tie.pass w sampled := by
  rw [trialPassed_frame ((State.passed_search _ _ _ _).trans hsearch) hscope hend]
  exact State.passed_tie _ _ _ _

/-- A passed trial barrier closes its trial: `v` is the state that waits at the barrier, with the log, the Setup fields,
the station and the barrier number of `s`, and its runner, state and point apart. -/
theorem passed_closes {s v : State} {w : Wait} {c : Search} (hkind : w.kind = .trial) (hsearch : v.search = some c)
    (hscope : c.fields.scope = .mainframe) (hend : c.members = 0 → c.step + c.fields.body < 255)
    (hlog : v.log = s.log) (hsetup : v.setup = s.setup) (hstation : v.tie.station = s.tie.station)
    (hbarrier : v.tie.barrier = s.tie.barrier)
    (hrunner : ∃ x p, v.runner = { s.runner with state := x, point := p }) (sampled : Verdict) (waited : Nat) :
    (s.marked (markPassedRecord .trial sampled waited v)).TrialCloses
      (trialPassed sampled v.tie.barrier (v.passed w sampled waited)) c sampled := by
  have barrier : v.tie.barrier = (s.marked (markPassedRecord .trial sampled waited v)).tie.barrier := by
    rw [State.marked_tie, hbarrier]
  rw [barrier]
  refine trialPassed_closes ((State.passed_search _ _ _ _).trans hsearch) hscope hend ?_ ?_ ?_ ?_ sampled
  · rw [State.passed_log, State.marked_log, hkind, hsetup, hlog, offer_log_congr _ hlog hsetup hstation]
  · rw [State.passed_eq, State.marked_setup]
    exact hsetup
  · rw [State.passed_tie, State.marked_tie]
    exact hstation
  · obtain ⟨x, p, hrunner⟩ := hrunner
    rw [State.passed_runner, State.marked_runner, hrunner]
    exact ⟨p, rfl⟩

/-- The Tie Port after a passed trial barrier: a FAIL of its own becomes the held veto (R132). -/
theorem Tie.pass_of_trial {w : Wait} (h : w.kind = .trial) (t : Tie) (sampled : Verdict) : t.pass w sampled =
    { t with wait := none, timer := none, barrier := (t.barrier + 1) % 65536, sampledVeto := some sampled
             heldVeto := if t.vote = some .fail then some w.line else none } := by
  simp [Tie.pass, h]

/-- An arrival by the parity of the barrier number (R130, R131). -/
theorem Tie.arrive_eq (t : Tie) (kind : BarrierKind) (vote : Option Verdict) (timeout : Nat) :
    t.arrive kind vote timeout =
      { t with
        wait := some { kind := kind, line := if t.barrier % 2 = 0 then .even else .odd, waited := 0 }, vote := vote
        markE := t.barrier % 2 != 0, markO := t.barrier % 2 == 0
        timer := if t.enlistment = .enlisted ∧ timeout ≠ 0 then some 0 else none } := by
  rcases Nat.mod_two_eq_zero_or_one t.barrier with h | h <;> simp [Tie.arrive, parityOf, h]

/-! ## The close of a trial (R112, R113) -/

/-- The local vote is FAIL when a site of the trial set has its flag set (R113). -/
theorem localVote_eq_fail_iff (c : Search) (s : State) :
    localVote c s = .fail ↔ ∃ i, c.trialSet.has i = true ∧ (s.site i).trialFailed = true := by
  simp [localVote]

/-- The state in which the local vote of a trial has been taken (R113). -/
def State.voting (c : Search) (vote : Verdict) (s : State) : State :=
  { s with search := some { c with phase := .vote, localVote := some vote, combined := none } }

/-- The close of a trial of MAINFRAME scope arrives at the next barrier with the local vote (R113). -/
theorem closeTrial_mainframe {s : State} {c : Search} (hroom : s.headroomShort = false) (hsearch : s.search = some c)
    (hscope : c.fields.scope = .mainframe) :
    closeTrial s = arrive .trial (some (localVote c s)) (s.voting c (localVote c s)) := by
  simp [closeTrial, hroom, hsearch, hscope, State.voting]

/-- The close of a trial of SITE scope (R112). -/
theorem closeTrial_site {s : State} {c : Search} (hroom : s.headroomShort = false) (hsearch : s.search = some c)
    (hscope : c.fields.scope = .site) : closeTrial s = closeSiteTrial c s := by
  simp [closeTrial, hroom, hsearch, hscope]

/-- The first body step begins a trial (R110). -/
theorem beginStep_trial {s : State} {c : Search} {step : PlanStep} (hsearch : s.search = some c)
    (hphase : c.phase = .body) (hindex : s.runner.stepIndex = c.step + 1)
    (hstep : stepAt s.plan s.runner.stepIndex = some step) (hnote : step.note = false) :
    beginStep s = beginTrial c (clearCurrent s) := by
  rw [hindex] at hstep
  simp [beginStep, hsearch, hphase, hindex, hstep, hnote]

/-- The context after the sites' own verdicts have moved their values (R112, R114). -/
def Search.siteJudged (c : Search) (s : State) : Search :=
  { c with
    values := Table.ofFn fun i =>
      if c.trialSet.has i then valueAfter c.fields.bits c.trial (c.values.get i) (s.site i).verdict
      else c.values.get i }

/-- A site of the trial set moves its value by its own verdict (R112, R114). -/
theorem Search.siteJudged_value (c : Search) (s : State) (i : SiteId) : (c.siteJudged s).values.get i =
    if c.trialSet.has i = true ∧ (s.site i).trialFailed = true ∧ c.trial ≤ c.fields.bits then
      c.values.get i + 2 ^ (c.fields.bits - c.trial) else c.values.get i := by
  rw [Search.siteJudged, Table.get_ofFn, valueAfter_eq]
  cases c.trialSet.has i <;> cases h : (s.site i).trialFailed <;> simp [Site.verdict, h]

/-- The members whose trials 1 to W all failed (R114). -/
theorem allFailedSet_has (c : Search) (i : SiteId) :
    (allFailedSet c).has i = true ↔ c.members.has i = true ∧ c.values.get i = 2 ^ c.fields.bits - 1 := by
  simp [allFailedSet, maxValue]

/-- A further trial follows in SITE scope before trial W, and after it while a member is at 2^W − 1 (R114). -/
theorem decideNext_site_further {c : Search} (hscope : c.fields.scope = .site)
    (h : c.trial < c.fields.bits ∨ c.trial = c.fields.bits ∧ allFailedSet c ≠ 0) (s : State) :
    decideNext c s = nextTrial c (if c.trial < c.fields.bits then c.trialSet else allFailedSet c) s := by
  rcases h with before | ⟨last, undecided⟩
  · simp [decideNext, before]
  · simp [decideNext, last, hscope, show ¬ allFailedSet c = 0#32 from undecided]

/-- The TRIAL_RESULT record of a site (R115). -/
def Search.siteRecord (c : Search) (s : State) (i : SiteId) : RecordBody :=
  .trialResult { step := c.step, site := some i, trial := c.trial, code := (c.codes.get i).getD 0
                 verdict := if (s.site i).trialFailed then .fail else .pass, localVote := none, barrier := none }

/-- The records of a close change the log and the causes only. -/
theorem foldl_offerTrialResult_frame (c : Search) (sites : List SiteId) (s : State) :
    sites.foldl (offerTrialResult c) s =
      { s with log := (sites.foldl (offerTrialResult c) s).log
               link := { s.link with causes := (sites.foldl (offerTrialResult c) s).link.causes } } := by
  induction sites generalizing s with
  | nil => rfl
  | cons i rest ih =>
    rw [List.foldl_cons, ih, offerTrialResult, offer_frame]

/-- The records of a close, each with the verdict that its site's flag gives. -/
theorem foldl_offerTrialResult_log (c d : Search) (hstep : d.step = c.step) (htrial : d.trial = c.trial)
    (hcodes : d.codes = c.codes) (s : State) (sites : List SiteId) (u v : State) (hsites : u.sites = s.sites)
    (hlog : u.log = v.log) (hsetup : u.setup = v.setup) (hstation : u.tie.station = v.tie.station) :
    (sites.foldl (offerTrialResult d) u).log = (sites.foldl (fun x i => offer (c.siteRecord s i) x) v).log := by
  induction sites generalizing u v with
  | nil => exact hlog
  | cons i rest ih =>
    have verdict : (u.site i).verdict = if (s.site i).trialFailed then .fail else .pass := by
      rw [Site.verdict, State.site, State.site, hsites]
    have record : offerTrialResult d u i = offer (c.siteRecord s i) u := by
      rw [offerTrialResult, verdict, hstep, htrial, hcodes]
      rfl
    rw [List.foldl_cons, List.foldl_cons, record]
    exact ih _ _ (by simp [hsites]) (offer_log_congr _ hlog hsetup hstation) (by simp [hsetup]) (by simp [hstation])

end Sys2Proof.Machine

open Sys2Proof Sys2Proof.Machine

/-- Settles O52: the passing of a trial's barrier, its close in each scope, and the beginning of a trial. -/
theorem trialBarrierMovesValue : Obligations.TrialBarrierMovesValue := by
  refine ⟨?_, ?_, ?_, ?_⟩
  · intro s peerVeto w c hwait hkind hstate henlisted hsearch hscope hend combined passed
    have passes := exec_barrierPass hwait hstate henlisted peerVeto
    rw [sampleVeto_of_trial hwait hkind, hkind] at passes
    change exec _ s = .next (trialPassed combined s.tie.barrier (s.passed w combined w.waited)) at passes
    exact ⟨_, passes, passed_trial_frame hsearch hscope hend _ _ _ _,
      (passed_trial_tie hsearch hscope hend _ _ _ _).trans (Tie.pass_of_trial hkind _ _),
      passed_closes (s := s) (v := s) (w := w) hkind hsearch hscope hend rfl rfl rfl rfl ⟨_, _, rfl⟩ combined
        w.waited⟩
  · intro s c hpending hstate hpoint hroom hsearch hscope
    refine ⟨localVote c s, _, step_of_close hpending hstate hpoint, localVote_eq_fail_iff c s, ?_⟩
    rw [closeTrial_mainframe hroom hsearch hscope]
    generalize localVote c s = vote
    refine ⟨fun henlisted => ?_, fun henlisted hend => ?_⟩
    · rw [arrive_of_enlisted (s := s.voting c vote) henlisted, State.arriving, Tie.arrive_eq]
      simp only [State.voting, henlisted, true_and, ne_eq, ite_not]
      rfl
    · rw [arrive_of_notEnlisted (s := s.voting c vote) henlisted, passBarrier_eq]
      refine ⟨?_, ?_, ?_⟩
      · exact passed_trial_frame (v := (s.voting c vote).arriving .trial (some vote)) rfl hscope hend _ _ _ _
      · refine (passed_trial_tie (v := (s.voting c vote).arriving .trial (some vote)) rfl hscope hend _ _ _ _).trans ?_
        rw [Tie.pass_of_trial rfl, State.arriving, Tie.arrive_eq]
        simp [State.voting, parityOf]
      · exact passed_closes (s := s) (v := (s.voting c vote).arriving .trial (some vote))
          (w := { kind := .trial, line := parityOf (s.voting c vote).tie.barrier, waited := 0 }) rfl rfl hscope hend rfl
          rfl rfl rfl ⟨_, _, rfl⟩ vote 0
  · intro s c label body hpending hstate hpoint hsearch hphase hindex hstep set value code
    rw [step_of_begin hpending hstate hpoint, beginStep_trial hsearch hphase hindex hstep rfl]
    have hcode (r) : codeOf c.fields (trialValue c.fields.bits c.trial r) = code r := by
      cases h : c.fields.polarity <;> simp [codeOf, code, h, value, trialValue, maxValue]
    refine ⟨_, c.beginTrial, rfl, rfl, fun i => ?_, ?_, fun hscope => ?_, fun hscope => ?_⟩
    · simp [beginTrial, clearTrialFlags, clearCurrent, State.site]
    · cases h : c.fields.scope <;> simp [Search.beginTrial, h, set]
    · simp [Search.beginTrial, hscope, hcode]
    · simp [Search.beginTrial, hscope, hcode, set]
  · intro s c hpending hstate hpoint hroom hsearch hscope htrial value undecided further
    have hvalue (i) : (c.siteJudged s).values.get i = value i := c.siteJudged_value s i
    have failed (i) : (allFailedSet (c.siteJudged s)).has i = true ↔ undecided i := by
      rw [allFailedSet_has, hvalue]
      rfl
    have goesOn : c.trial < c.fields.bits ∨ c.trial = c.fields.bits ∧ allFailedSet (c.siteJudged s) ≠ 0 :=
      further.imp_right fun ⟨last, i, hi⟩ => ⟨last, SiteSet.ne_zero_of_has ((failed i).mpr hi)⟩
    rw [step_of_close hpending hstate hpoint, closeTrial_site hroom hsearch hscope]
    have closed : closeSiteTrial c s = decideNext (c.siteJudged s) ((membersInOrder c.trialSet).foldl
        (offerTrialResult (c.siteJudged s)) { s with search := some (c.siteJudged s) }) := rfl
    rw [closed, decideNext_site_further (c := c.siteJudged s) hscope goesOn, foldl_offerTrialResult_frame]
    refine ⟨_, _, rfl, rfl, rfl, rfl, rfl, rfl, hvalue, fun before => if_pos before, fun last i => ?_, ?_⟩
    · rw [if_neg (by show ¬ c.trial < c.fields.bits; omega)]
      exact failed i
    · exact foldl_offerTrialResult_log c (c.siteJudged s) rfl rfl rfl s _ _ s rfl rfl rfl rfl
end

section
/-! PROOFS. The Address/Data Generator: the stream of a page, and the order of a sweep's rounds. -/
namespace Sys2Proof.Machine

/-! ## The expected bytes of a page (R32 to R36) -/

theorem streamFrom_length (f : SweepFields) (g block page count offset : Nat) (state : Word) :
    (streamFrom f g block page count offset state).length = count := by
  induction count generalizing offset state with
  | zero => rfl
  | succ count ih => rw [streamFrom, List.length_cons, ih]

/-- Byte `i` of a stream is the byte of its offset, with the RANDOM state after `i + 1` steps (R35, R36). -/
theorem streamFrom_getElem? (f : SweepFields) (g block page : Nat) {i count : Nat} (h : i < count) (offset : Nat)
    (state : Word) : (streamFrom f g block page count offset state)[i]? =
      some (expectedByte f g block page (offset + i) (randomNext^[i + 1] state)) := by
  induction i generalizing count offset state with
  | zero =>
    obtain ⟨count, rfl⟩ := Nat.exists_eq_add_of_lt h
    simp [streamFrom]
  | succ i ih =>
    obtain ⟨count, rfl⟩ := Nat.exists_eq_add_of_lt (Nat.zero_lt_of_lt h)
    rw [streamFrom, List.getElem?_cons_succ, ih (by omega), Function.iterate_succ_apply _ (i + 1)]
    congr 2
    omega

theorem toByte_mod (n : Nat) : toByte (n % 256) = toByte n :=
  BitVec.eq_of_toNat_eq (by simp [toByte])

/-- Inversion of a byte below 256 (R36). -/
theorem not_toByte {n : Nat} (h : n < 256) : ~~~ toByte n = toByte (255 - n) := by
  refine BitVec.eq_of_toNat_eq ?_
  simp only [toByte, BitVec.toNat_not, BitVec.toNat_ofNat]
  omega

/-- A byte that leaves the ADG is the number of its pattern, or 255 less it (R36). -/
theorem expectedByte_of_patternByte {f : SweepFields} {g block page offset n : Nat} {next : Word}
    (h : patternByte f g block page offset next = toByte n) (hn : n < 256) :
    expectedByte f g block page offset next = toByte (if f.invert then 255 - n else n) := by
  rw [expectedByte, h]
  split
  · exact not_toByte hn
  · rfl

/-! ## A list visited by a successor function (R27) -/

/-- The list in which each element's successor is the one after it, and the last has none. -/
structure Visits {α : Type} (next : α → Option α) (l : List α) : Prop where
  chain : l.IsChain fun x y => next x = some y
  ends : ∀ x ∈ l.getLast?, next x = none

theorem Visits.next_getElem {α : Type} {next : α → Option α} {l : List α} (h : Visits next l) (k : Nat)
    (hk : k + 1 < l.length) : next l[k] = some l[k + 1] := List.isChain_iff_getElem.mp h.chain k hk

/-- The outer list visited in order, and the inner one whole at each of its elements: the successor is the next of the
inner list, and past its end the first of it at the next of the outer. -/
theorem Visits.flatMap {α β γ : Type} {nextOuter : α → Option α} {nextInner : β → Option β} {next : γ → Option γ}
    {outer : List α} {inner : List β} {start : β} {pair : α → β → γ} (houter : Visits nextOuter outer)
    (hinner : Visits nextInner inner) (hstart : inner.head? = some start)
    (hinside : ∀ x y y', nextInner y = some y' → next (pair x y) = some (pair x y'))
    (hpast : ∀ x y, nextInner y = none → next (pair x y) = (nextOuter x).map (pair · start)) :
    Visits next (outer.flatMap fun x => inner.map (pair x)) := by
  obtain ⟨rest, rfl⟩ : ∃ rest, inner = start :: rest := List.head?_eq_some_iff.mp hstart
  have last (x : α) : ∀ z ∈ ((start :: rest).map (pair x)).getLast?, next z = (nextOuter x).map (pair · start) := by
    intro z hz
    rw [List.getLast?_map] at hz
    obtain ⟨y, hy, rfl⟩ := Option.mem_map.mp hz
    exact hpast x y (hinner.ends y hy)
  refine ⟨?_, fun z hz => ?_⟩
  · rw [List.flatMap_def, List.isChain_flatten (by simp)]
    refine ⟨fun l hl => ?_, (List.isChain_map _).mpr (houter.chain.imp fun x x' hx z hz z' hz' => ?_)⟩
    · obtain ⟨x, _, rfl⟩ := List.mem_map.mp hl
      exact (List.isChain_map _).mpr (hinner.chain.imp fun y y' => hinside x y y')
    · obtain rfl : pair x' start = z' := by simpa using hz'
      rw [last x z hz, hx]
      rfl
  · rcases List.eq_nil_or_concat outer with rfl | ⟨before, x, rfl⟩
    · simp at hz
    · rw [List.concat_eq_append, List.flatMap_append, List.flatMap_singleton, List.getLast?_append] at hz
      rw [last x z (by simpa using hz), houter.ends x (by simp)]
      rfl

/-! ## The values of a dimension and the pairs of a sweep, in order (R27) -/

/-- The values of a dimension in its direction. -/
def dimValues (d : Direction) (first last : Nat) : List Nat :=
  match d with
  | .up => List.range' first (last - first + 1)
  | .down => (List.range' first (last - first + 1)).reverse

theorem dimValues_head? (d : Direction) {first last : Nat} (h : first ≤ last) :
    (dimValues d first last).head? = some (dimStart d first last) := by
  cases d with
  | up => simp [dimValues, dimStart, List.range'_succ]
  | down => simp [dimValues, dimStart, List.range'_concat, h]

theorem dimValues_length (d : Direction) (first last : Nat) :
    (dimValues d first last).length = last - first + 1 := by cases d <;> simp [dimValues]

theorem dimValues_visits (d : Direction) {first last : Nat} (h : first ≤ last) :
    Visits (dimNext d first last) (dimValues d first last) := by
  cases d with
  | up =>
    refine ⟨List.isChain_iff_getElem.mpr fun k hk => ?_, fun x hx => ?_⟩
    · have room : k + 1 < last - first + 1 := dimValues_length .up first last ▸ hk
      simp only [dimValues, dimNext, List.getElem_range', one_mul]
      rw [if_pos (by omega), Nat.add_assoc]
    · have : last = x := by simpa [dimValues, List.range'_concat, h] using hx
      simp [dimNext, this]
  | down =>
    refine ⟨List.isChain_iff_getElem.mpr fun k hk => ?_, fun x hx => ?_⟩
    · have room : k + 1 < last - first + 1 := dimValues_length .down first last ▸ hk
      simp only [dimValues, dimNext, List.getElem_reverse, List.length_range', List.getElem_range', one_mul]
      rw [if_pos (by omega)]
      exact congrArg some (by omega)
    · have : first = x := by simpa [dimValues, List.range'_succ] using hx
      simp [dimNext, this]

theorem dimValues_nodup (d : Direction) (first last : Nat) : (dimValues d first last).Nodup := by
  cases d <;> simp [dimValues, List.nodup_range']

theorem mem_dimValues (d : Direction) {first last : Nat} (h : first ≤ last) (x : Nat) :
    x ∈ dimValues d first last ↔ first ≤ x ∧ x ≤ last := by
  cases d <;> simp [dimValues, List.mem_range'_1] <;> omega

/-- The pairs of a sweep in its order. -/
def sweepPairs (f : SweepFields) : List (Nat × Nat) :=
  let blocks := dimValues f.blockOrder f.firstBlock f.lastBlock
  let pages := dimValues f.pageOrder f.firstPage f.lastPage
  match f.major with
  | .blockMajor => blocks.flatMap fun b => pages.map fun p => (b, p)
  | .pageMajor => pages.flatMap fun p => blocks.map fun b => (b, p)

/-- In either major order the pairs are those of the product of blocks and pages, each once. -/
theorem sweepPairs_perm (f : SweepFields) : (sweepPairs f).Perm
    (dimValues f.blockOrder f.firstBlock f.lastBlock ×ˢ dimValues f.pageOrder f.firstPage f.lastPage) := by
  have blocks := dimValues_nodup f.blockOrder f.firstBlock f.lastBlock
  have pages := dimValues_nodup f.pageOrder f.firstPage f.lastPage
  cases hmajor : f.major with
  | blockMajor =>
    simp only [sweepPairs, hmajor]
    exact .refl _
  | pageMajor =>
    have swapped : sweepPairs f = (dimValues f.pageOrder f.firstPage f.lastPage ×ˢ
        dimValues f.blockOrder f.firstBlock f.lastBlock).map Prod.swap := by
      simp only [sweepPairs, hmajor, SProd.sprod, List.product, List.map_flatMap, List.map_map]
      rfl
    rw [swapped, List.perm_ext_iff_of_nodup ((pages.product blocks).map Prod.swap_injective) (blocks.product pages)]
    rintro ⟨b, p⟩
    simp [and_comm]

theorem sweepPairs_head? {f : SweepFields} (hb : f.firstBlock ≤ f.lastBlock) (hp : f.firstPage ≤ f.lastPage) :
    (sweepPairs f).head? = some (dimStart f.blockOrder f.firstBlock f.lastBlock,
      dimStart f.pageOrder f.firstPage f.lastPage) := by
  obtain ⟨bs, hbs⟩ := List.head?_eq_some_iff.mp (dimValues_head? f.blockOrder hb)
  obtain ⟨ps, hps⟩ := List.head?_eq_some_iff.mp (dimValues_head? f.pageOrder hp)
  cases hmajor : f.major <;> simp [sweepPairs, hmajor, hbs, hps]

/-- The model's next pair visits the pairs in the major order (R27). -/
theorem sweepPairs_visits {f : SweepFields} (hb : f.firstBlock ≤ f.lastBlock) (hp : f.firstPage ≤ f.lastPage) :
    Visits (fun q => nextPair f q.1 q.2) (sweepPairs f) := by
  have blocks := dimValues_visits f.blockOrder hb
  have pages := dimValues_visits f.pageOrder hp
  cases hmajor : f.major with
  | blockMajor =>
    simp only [sweepPairs, hmajor]
    exact blocks.flatMap pages (dimValues_head? f.pageOrder hp) (fun b p p' h => by simp [nextPair, hmajor, h])
      (fun b p h => by simp [nextPair, hmajor, h])
  | pageMajor =>
    simp only [sweepPairs, hmajor]
    exact pages.flatMap blocks (dimValues_head? f.blockOrder hb) (fun p b b' h => by simp [nextPair, hmajor, h])
      (fun p b h => by simp [nextPair, hmajor, h])

/-! ## The rounds at the pairs (R28, R29) -/

/-- The round of a kind at a pair. -/
def pageRound (kind : PageKind) (q : Nat × Nat) : Position := { kind := kind, block := q.1, page := some q.2 }

/-- The round kind that a pair begins with, in a sweep other than ERASE (R29). -/
def pairFirst (op : SweepOp) : PageKind := if op = .verify then .read else .program

/-- The round kind that a pair ends with, in a sweep other than ERASE (R29). -/
def pairLast (op : SweepOp) : PageKind := if op = .program then .program else .read

theorem firstPosition_page {f : SweepFields} (hop : f.op ≠ .erase) : firstPosition f =
    pageRound (pairFirst f.op) (dimStart f.blockOrder f.firstBlock f.lastBlock,
      dimStart f.pageOrder f.firstPage f.lastPage) := by
  cases h : f.op with
  | erase => exact absurd h hop
  | _ => simp [firstPosition, firstKind, pageRound, pairFirst, h]

/-- A PROGRAM_VERIFY pair has its READ round after its PROGRAM round (R29). -/
theorem successorOf_programmed {f : SweepFields} (hop : f.op = .programVerify) (q : Nat × Nat) :
    successorOf f (pageRound .program q) = some (pageRound .read q) := by
  simp [successorOf, hop, pageRound]

/-- The last round at a pair is followed by the first round at the next pair (R28, R29). -/
theorem successorOf_pairLast {f : SweepFields} (hop : f.op ≠ .erase) (q : Nat × Nat) :
    successorOf f (pageRound (pairLast f.op) q) = (nextPair f q.1 q.2).map (pageRound (pairFirst f.op)) := by
  cases h : f.op with
  | erase => exact absurd h hop
  | _ =>
    simp only [successorOf, pageRound, pairLast, h]
    rfl

/-- The ERASE round of a block. -/
def eraseRound (b : Nat) : Position := { kind := .erase, block := b, page := none }

theorem firstPosition_erase {f : SweepFields} (hop : f.op = .erase) :
    firstPosition f = eraseRound (dimStart f.blockOrder f.firstBlock f.lastBlock) := by
  simp [firstPosition, firstKind, eraseRound, hop]

theorem successorOf_erase {f : SweepFields} (hop : f.op = .erase) (b : Nat) : successorOf f (eraseRound b) =
    (dimNext f.blockOrder f.firstBlock f.lastBlock b).map eraseRound := by
  simp only [successorOf, hop]
  rfl

end Sys2Proof.Machine

open Sys2Proof Sys2Proof.Machine

/-- Settles O57: the byte at an offset, then its number under each pattern. -/
theorem streamBytesFollowThePattern : Obligations.StreamBytesFollowThePattern := by
  intro f g block page count i hi
  refine ⟨streamFrom_length f g block page count 0 _, ?_⟩
  intro linear states plain
  rw [pageStream, streamFrom_getElem? f g block page hi, Nat.zero_add]
  refine congrArg some (expectedByte_of_patternByte ?_ ?_)
  · cases hpattern : f.pattern with
    | solid => simp [patternByte, plain, hpattern, toByte_mod]
    | checker => simp [patternByte, plain, hpattern, toByte_mod, apply_ite toByte]
    | address => simp [patternByte, plain, hpattern, toByte_mod, linear, linearPage]
    | random =>
      simp only [patternByte, plain, hpattern]
      rfl
  · cases hpattern : f.pattern with
    | solid => simp only [plain, hpattern, Nat.mod_lt, Nat.zero_lt_succ]
    | checker =>
      simp only [plain, hpattern]
      split <;> omega
    | address => simp only [plain, hpattern, Nat.mod_lt, Nat.zero_lt_succ]
    | random =>
      have := (states (i + 1)).isLt
      simp only [plain, hpattern]
      omega

/-- Settles O56: the pairs are those of the product in an order that the model's next pair visits, and the last round at
a pair leads to the first at the next; an ERASE sweep visits its blocks so. -/
theorem sweepVisitsEveryPairOnce : Obligations.SweepVisitsEveryPairOnce := by
  intro f hb hp along blocks pages pairs at_ erase first last
  have perm : pairs.Perm _ := sweepPairs_perm f
  have byPairs : Visits _ pairs := sweepPairs_visits hb hp
  have byBlocks : Visits _ blocks := dimValues_visits f.blockOrder hb
  have nodup : blocks.Nodup := dimValues_nodup f.blockOrder f.firstBlock f.lastBlock
  have within (b : Nat) : b ∈ blocks ↔ _ := mem_dimValues f.blockOrder hb b
  refine ⟨?_, ?_, fun b p => ?_, fun hop => ⟨fun q hq => ?_, fun hverify q => successorOf_programmed hverify q,
    fun k hk => ?_, fun q hq => ?_⟩, fun hop => ⟨fun b hq => ?_, fun k hk => ?_, fun b hq => ?_, nodup, within⟩⟩
  · exact perm.nodup_iff.mpr (nodup.product (dimValues_nodup _ _ _))
  · rw [perm.length_eq, List.length_product, dimValues_length, dimValues_length]
  · rw [perm.mem_iff, List.mem_product, mem_dimValues _ hb, mem_dimValues _ hp, and_assoc]
  · rw [firstPosition_page hop, ← Option.some.inj (hq.symm.trans (sweepPairs_head? hb hp))]
    rfl
  · exact (successorOf_pairLast hop _).trans (congrArg _ (byPairs.next_getElem k hk))
  · exact (successorOf_pairLast hop q).trans (congrArg _ (byPairs.ends q hq))
  · rw [firstPosition_erase hop, ← Option.some.inj (hq.symm.trans (dimValues_head? f.blockOrder hb))]
    rfl
  · exact (successorOf_erase hop _).trans (congrArg _ (byBlocks.next_getElem k hk))
  · exact (successorOf_erase hop b).trans (congrArg _ (byBlocks.ends b hq))
end

section
/-! PROOFS. What a port goes on with: the issue of a transaction, the expiry of a poll timer, the end of a discarded
transaction; and the disable of a site, which discards one. -/
namespace Sys2Proof.Machine

/-! ## The issue of a page round's transaction and the poll timer (R44, R45, R47) -/

/-- The deadline that the Setup fields give a page round of a kind (R47). -/
theorem roundDeadline_page (g : Setup) (p : Position) (precondition : Bool) :
    roundDeadline g (.page p precondition) = some (match p.kind with
      | .erase => g.eraseDeadline
      | .program => g.programDeadline
      | .read => g.readDeadline) := by
  cases h : p.kind <;> simp [roundDeadline, h]

/-- The issue of a page round's transaction starts both timers of its site (R44). -/
theorem issueLive_page {s : State} {i : SiteId} {r : Round} {tx : Tx} {p : Position} {precondition : Bool}
    (hwork : r.work = .page p precondition)
    (hport : s.ports.get i = { current := some { tx := tx, live := true }, queued := none }) :
    issueLive i r s = setClocks i (clocksAtIssue s.setup (.page p precondition)) (s.issued i) := by
  simp [issueLive, hwork, Port.ended, State.port, hport, setPort, State.issued]

/-- The expiry of a running poll timer at an idle port begins a STATUS transaction (R45). -/
theorem pollExpiry_idle {s : State} {i : SiteId} {x : Timer} (hpoll : (s.clocks.get i).poll = some x)
    (hport : (s.ports.get i).current = none) : pollExpiry i s =
      { s with
        clocks := s.clocks.set i { s.clocks.get i with poll := none }
        ports := s.ports.set i { s.ports.get i with current := some { tx := .status, live := true } } } := by
  simp [pollExpiry, hpoll, State.port, hport, setPort, setClocks]

/-! ## A PROGRAM at a port (R35, R41) -/

theorem Port.programming_iff (p : Port) : p.programming = true ↔
    ∃ q data live, p.current = some { tx := .program q data, live := live } := by
  obtain ⟨current, queued⟩ := p
  rcases current with _ | ⟨tx, live⟩
  · simp [Port.programming]
  · cases tx <;> simp [Port.programming]

/-- A port whose transaction ends takes the bytes of a PROGRAM next when one is queued (R41). -/
theorem Port.ended_programming_iff (p : Port) : p.ended.programming = true ↔
    ∃ q data, p.queued = some (.program q data) := by
  rw [Port.programming_iff]
  cases h : p.queued <;> simp [Port.ended, h]

/-- The end of a transaction at a port that takes no PROGRAM's bytes, or takes a PROGRAM's bytes next, leaves the
stream (R35). -/
theorem streamEnded_of_kept {s : State} {i : SiteId}
    (h : (s.ports.get i).programming = false ∨ (s.ports.get i).ended.programming = true) :
    streamEnded i s = s.streams.get i := by
  rcases h with h | h <;> simp [streamEnded, State.port, h]

/-- The end of a PROGRAM that no other PROGRAM follows ends the stream (R35). -/
theorem streamEnded_of_over {s : State} {i : SiteId} (h : (s.ports.get i).programming = true)
    (hnext : (s.ports.get i).ended.programming = false) : streamEnded i s = none := by
  simp [streamEnded, State.port, h, hnext]

/-! ## The end of a discarded transaction (R41, R53) -/

/-- Whether the discarded transaction's end begins the first status read of a POLL round (R53). -/
def State.beginsPoll (s : State) (i : SiteId) : Bool := s.inPollRound && (s.ports.get i).queued == some .status

theorem State.beginsPoll_iff (s : State) (i : SiteId) :
    s.beginsPoll i = true ↔ s.inPollRound = true ∧ (s.ports.get i).queued = some .status := by
  simp [State.beginsPoll]

/-- The end of a discarded transaction: the port, the stream it has taken, and the poll timer of a status read that
begins so; nothing else changes (R41, R53). -/
theorem endDiscarded_eq (i : SiteId) (s : State) : endDiscarded i s =
    { s with
      ports := s.ports.set i (s.ports.get i).ended
      streams := s.streams.set i (streamEnded i s)
      clocks := if s.beginsPoll i then s.clocks.set i
          { s.clocks.get i with poll := some { limit := s.setup.pollInterval, elapsed := 0 } } else s.clocks } := by
  cases h : s.beginsPoll i <;> simp_all [endDiscarded, State.beginsPoll, State.port, setPort, setClocks, Timer.start]

theorem exec_discardedTransactionEnd (i : SiteId) (s : State) :
    exec (.discardedTransactionEnd i) s = .next (discardedEnd i s) := rfl

theorem Port.discarding_eq_false {p : Port} (h : ∀ c, p.current = some c → c.live = true) : p.discarding = false := by
  cases hc : p.current with
  | none => simp [Port.discarding, hc]
  | some c => simp [Port.discarding, hc, h c hc]

/-! ## The disable of a site (R57, R90, R120) -/

theorem Site.disable_of_enabled {x : Site} (h : x.state ≠ .off) :
    x.disable = { x with state := .off, phase := none, reject := none } := by
  cases hs : x.state <;> simp_all [Site.disable]

/-- The state after the disable of a site that has no part in a round (R90, R120). -/
def State.disabled (i : SiteId) (s : State) : State :=
  { s with
    sites := s.sites.set i { s.site i with state := .off, phase := none, reject := none }
    search := s.search.map (·.leave i) }

/-- The state after the disable of a site that is WAITING: its part in the round is gone too (R57). -/
def State.disabledWaiting (i : SiteId) (s : State) : State :=
  { s.disabled i with
    clocks := s.clocks.set i Clocks.stopped
    ports := s.ports.set i (s.ports.get i).abandonSite
    tallies := s.tallies.set i none
    streams := s.streams.set i (streamLeft s i) }

theorem modifySite_disable {s : State} {i : SiteId} (h : (s.site i).state ≠ .off) :
    modifySite i Site.disable s =
      { s with sites := s.sites.set i { s.site i with state := .off, phase := none, reject := none } } :=
  congrArg (fun x => { s with sites := s.sites.set i x }) (Site.disable_of_enabled h)

/-- A disable of a site that is not OFF (R57, R90, R120). -/
theorem disableSite_eq {s : State} {i : SiteId} (h : (s.site i).state ≠ .off) :
    disableSite i s = if (s.site i).state = .waiting then s.disabledWaiting i else s.disabled i := by
  simp only [disableSite, modifySite_disable h]
  cases hs : (s.site i).state with
  | off => exact absurd hs h
  | waiting => rfl
  | active => rfl
  | rejected => rfl

theorem disableSite_round {s : State} {i : SiteId} (h : (s.site i).state ≠ .off) :
    (disableSite i s).round = s.round := by
  rw [disableSite_eq h]
  split <;> rfl

theorem disableSite_site_ne {s : State} {i j : SiteId} (h : (s.site i).state ≠ .off) (hj : j ≠ i) :
    (disableSite i s).site j = s.site j := by
  rw [disableSite_eq h]
  split <;> exact Table.get_set_ne _ _ hj.symm

theorem cfgSite_enableWord (i : SiteId) : cfgSite (2 * i.val) = i :=
  Fin.ext (by simp [cfgSite, Nat.mod_eq_of_lt i.isLt])

theorem exec_siteCfgWrite {s : State} (h : s.linkTakes = true) (index : Word) {words : List Word}
    (h1 : 1 ≤ words.length) (h2 : words.length ≤ 256) :
    exec (.siteCfgWrite index words) s = .next (siteCfgWriteRequest index words s) := by
  simp [exec, execSiteCfgWrite, frameCountOk, h1, h2, onRequest_of_takes h]

/-- An enable word written clear is accepted in every runner state and disables its site (R89, R90). -/
theorem siteCfgWriteRequest_disable (i : SiteId) {w : Word} (hclear : w.getLsbD 0 = false) (s : State) :
    siteCfgWriteRequest (toWord (2 * i.val)) [w] s = endRoundIfDone (disableSite i (answer .ok [] s)) := by
  have index : (toWord (2 * i.val)).toNat = 2 * i.val :=
    (toWord_toNat _).trans (Nat.mod_eq_of_lt (by omega))
  have clear : w[0] = false := hclear
  have accepted : anyCfgRefused s (2 * i.val) [w] = false := by simp [anyCfgRefused, cfgRefused, clear]
  have applied : applyCfg s.quiet (2 * i.val) [w] (answer .ok [] s) = disableSite i (answer .ok [] s) := by
    simp [applyCfg, applyCfgWord, clear, cfgSite_enableWord]
  rw [siteCfgWriteRequest, index, accepted, applied, if_neg (by simp; omega), Bool.and_false, if_neg (by simp)]

/-- Outside a round, or with another site WAITING, a disable ends no round (R56, R90). -/
theorem endRoundIfDone_disableSite {s : State} {i : SiteId} (h : s.round = none ∨ s.othersWait i)
    (henabled : (s.site i).state ≠ .off) : endRoundIfDone (disableSite i s) = disableSite i s := by
  rcases endRoundIfDone_cases (disableSite i s) with ⟨flying, quiet, _⟩ | ⟨_, e⟩
  · rcases h with hnone | ⟨j, hj, hwaits⟩
    · simp [disableSite_round henabled, hnone] at flying
    · have waits := anyWaiting_of_waiting (s := disableSite i s) (i := j)
        (by rw [disableSite_site_ne henabled hj]; exact hwaits)
      simp [waits] at quiet
  · exact e

end Sys2Proof.Machine

open Sys2Proof Sys2Proof.Machine

/-- Settles O41: the issue at a WAITING site's port, then the expiry at an idle port. -/
theorem issueAndPollTimers : Obligations.IssueAndPollTimers := by
  intro s i hidle
  refine ⟨fun r p pre tx hround hwork hwaiting htx hport => ?_, fun x hpoll hport => ?_⟩
  · have sent : tx.report = .sent := by rcases htx with rfl | ⟨data, rfl⟩ <;> rfl
    rw [exec_issue_live hround hport sent hwaiting hidle, issueLive_page hwork hport, clocksAtIssue,
      roundDeadline_page]
    rfl
  · have settled : exec (.pollTimerExpiry i) s = .next (pollExpiry i s) := by
      simp [exec, execPollTimerExpiry, settle_of_not_busy hidle]
    rw [settled, pollExpiry_idle hpoll hport]

/-- Settles O50: the port, its stream by what it carried and what is queued behind it, and the poll timer. -/
theorem discardedTransactionEnds : Obligations.DiscardedTransactionEnds := by
  intro s i
  refine ⟨fun tx hcurrent => ⟨endDiscarded i s, ?_, ?_, ?_, ?_, ?_, ?_, ?_, ?_, ?_⟩, fun hlive => ?_⟩
  · simp [exec_discardedTransactionEnd, discardedEnd, Port.discarding, State.port, hcurrent]
  · rw [endDiscarded_eq]
  · rw [endDiscarded_eq]
    rfl
  · intro j hj
    rw [endDiscarded_eq]
    refine ⟨Table.get_set_ne _ _ hj.symm, ?_⟩
    dsimp only
    split
    · exact Table.get_set_ne _ _ hj.symm
    · rfl
  · intro hother
    have kept : (s.ports.get i).programming = false := by
      rw [Bool.eq_false_iff, ne_eq, Port.programming_iff, hcurrent]
      simpa using hother
    rw [endDiscarded_eq]
    exact (Table.get_set_self _ _ _).trans (streamEnded_of_kept (.inl kept))
  · intro p data hqueued
    rw [endDiscarded_eq]
    exact (Table.get_set_self _ _ _).trans
      (streamEnded_of_kept (.inr ((Port.ended_programming_iff _).mpr ⟨p, data, hqueued⟩)))
  · intro p data htx hnext
    have programs : (s.ports.get i).programming = true :=
      (Port.programming_iff _).mpr ⟨p, data, false, by rw [hcurrent, htx]⟩
    have none_next : (s.ports.get i).ended.programming = false := by
      rw [Bool.eq_false_iff, ne_eq, Port.ended_programming_iff]
      rintro ⟨q, bytes, hq⟩
      exact hnext q bytes hq
    rw [endDiscarded_eq]
    exact (Table.get_set_self _ _ _).trans (streamEnded_of_over programs none_next)
  · intro hno
    have still : ¬ s.beginsPoll i = true := by
      rw [State.beginsPoll_iff]
      rintro ⟨hpoll, hqueued⟩
      rcases hno with h | h
      · simp [hpoll] at h
      · exact h hqueued
    rw [endDiscarded_eq, if_neg still]
  · intro hpoll hqueued
    rw [endDiscarded_eq, if_pos ((s.beginsPoll_iff i).mpr ⟨hpoll, hqueued⟩)]
    exact Table.get_set_self _ _ _
  · rw [exec_discardedTransactionEnd, discardedEnd, State.port, Port.discarding_eq_false hlive]
    rfl

/-- Settles O26: the accepted frame disables the site and ends no round; then the site's record and every other site's,
and what goes with a WAITING site's part. -/
theorem disableCutsSiteLoose : Obligations.DisableCutsSiteLoose := by
  intro s i w takes hclear hround henabled
  have run : exec (.siteCfgWrite (toWord (2 * i.val)) [w]) s = .next (disableSite i (answer .ok [] s)) := by
    rw [exec_siteCfgWrite takes _ (by simp) (by simp), siteCfgWriteRequest_disable i hclear,
      endRoundIfDone_disableSite (s := answer .ok [] s) hround henabled]
  refine ⟨_, run, ?_⟩
  rw [disableSite_eq (s := answer .ok [] s) henabled]
  by_cases hwaiting : (s.site i).state = .waiting
  · rw [if_pos (show ((answer .ok [] s).site i).state = .waiting from hwaiting)]
    refine ⟨rfl, Table.get_set_self _ _ _, fun j hj => ?_, fun _ => ?_, fun h => absurd hwaiting h, rfl⟩
    · exact ⟨Table.get_set_ne _ _ hj.symm, Table.get_set_ne _ _ hj.symm, Table.get_set_ne _ _ hj.symm,
        Table.get_set_ne _ _ hj.symm, Table.get_set_ne _ _ hj.symm⟩
    · have stream : ((answer .ok [] s).disabledWaiting i).streams.get i = streamLeft s i := Table.get_set_self _ _ _
      have port : ((answer .ok [] s).disabledWaiting i).ports.get i = (s.ports.get i).abandonSite :=
        Table.get_set_self _ _ _
      refine ⟨Table.get_set_self _ _ _, Table.get_set_self _ _ _, fun hprogram => ?_, fun hother => ?_,
        congrArg Port.queued port, congrArg Port.current port⟩
      · rw [stream, streamLeft, if_pos ((Port.programming_iff _).mpr hprogram)]
      · rw [stream, streamLeft, if_neg]
        rw [Port.programming_iff]
        rintro ⟨p, data, live, h⟩
        exact hother p data live h
  · rw [if_neg (show ¬ ((answer .ok [] s).site i).state = .waiting from hwaiting)]
    exact ⟨rfl, Table.get_set_self _ _ _,
      fun j hj => ⟨Table.get_set_ne _ _ hj.symm, rfl, rfl, rfl, rfl⟩, fun h => absurd h hwaiting,
      fun _ => ⟨rfl, rfl, rfl, rfl⟩, rfl⟩
end

section
/-! PROOFS. A step on an empty queue: one piece of the runner's work, or one µs of the timebase. -/
namespace Sys2Proof.Machine

/-! ## One µs of the timebase (R44, R134, R142, R162) -/

/-- On an empty queue, with no work at hand, a step is one µs of the timebase (log entry 1). -/
theorem step_of_idle {s : State} (hpending : s.pending = []) (hidle : s.busy = false) : step s = .next (tick s) := by
  rcases idle_cases s with ⟨busy, _⟩ | ⟨_, e⟩
  · simp [hidle] at busy
  · simp [step, hpending, e]

/-- A µs moves the timers, the wait at a barrier and the link line's counts; in a hold-off it takes a free value too
(log entry 28). -/
theorem tick_frame (s : State) : tick s =
    { s with
      clocks := s.clocks.map Clocks.tick
      tie := s.tie.tick s.setup.rendezvousTimeout
      free := (tick s).free
      link := { s.link with lineHigh := (tick s).link.lineHigh, holdOff := (tick s).link.holdOff } } := by
  rcases tick_cases s with ⟨_, e⟩ | ⟨_, _, e⟩ <;> rw [e] <;> rfl

/-- Outside a hold-off the line counts as high, and no free value is taken (log entry 28). -/
theorem tick_of_noHoldOff {s : State} (h : s.link.holdOff = none) :
    (tick s).link.holdOff = none ∧ (tick s).free = s.free ∧
      (tick s).link.lineHigh = min (s.link.lineHigh + 1) 2500 := by
  have ended : s.link.holdOffTick true = none := by simp [Link.holdOffTick, h]
  rcases tick_cases s with ⟨_, e⟩ | ⟨n, hn, _⟩
  · rw [e]
    exact ⟨ended, rfl, rfl⟩
  · simp [h] at hn

/-- A hold-off one µs later, under a learned two-bit period in tenths of a µs (R162). -/
theorem holdOffTick_eq {l : Link} {n period : Nat} (hn : l.holdOff = some n) (hperiod : l.learned = some period)
    (high : Bool) : l.holdOffTick high =
      if high = true then (if period ≤ 20 * (n + 1) then none else some (n + 1)) else some 0 := by
  cases high <;> simp [Link.holdOffTick, hn, holdOffOver, hperiod]

/-- In a hold-off the level of the line is the free value that this µs takes (log entry 28). -/
theorem tick_of_holdOff {s : State} {n : Nat} (h : s.link.holdOff = some n) :
    (tick s).free = s.free + 1 ∧ (tick s).link.holdOff = s.link.holdOffTick (Config.lineIsHigh s.free) := by
  rcases tick_cases s with ⟨none, _⟩ | ⟨_, _, e⟩
  · simp [h] at none
  · rw [e]
    exact ⟨rfl, rfl⟩

/-! ## The work at hand is done before an event that only it can bring about (log entry 39) -/

/-- Where the work at hand comes to an end, doing it again does nothing. -/
theorem settle_settle {s : State} (h : (settle s).busy = false) : settle (settle s) = settle s :=
  settle_of_not_busy h

/-- ISSUE at a port that carries no discarded transaction of the round's acts with the work at hand done. -/
theorem exec_issue_settles {s : State} {i : SiteId} (h : (s.port i).discards .sent = false) :
    exec (.issue i) s = .next (issueSettled i (settle s)) := by
  simp [exec, execIssue, issueEvent, h]

/-- STATUS_RESULT at a port that carries no discarded STATUS acts with the work at hand done. -/
theorem exec_statusResult_settles {s : State} {i : SiteId} (h : (s.port i).discards .status = false)
    (status : Byte) : exec (.statusResult i status) s = .next (statusSettled i status (settle s)) := by
  simp [exec, execStatusResult, statusEvent, h]

end Sys2Proof.Machine

open Sys2Proof Sys2Proof.Machine

/-- Settles O2: a piece of work, a µs field by field, and the events that find the work at hand done. -/
theorem emptyQueueIsOneTick : Obligations.EmptyQueueIsOneTick := by
  refine ⟨fun s hpending hbusy => step_of_busy hpending hbusy, fun s hpending hidle => ?_,
    fun s i status peerVeto hsettled => ?_⟩
  · have frame := tick_frame s
    refine ⟨tick s, step_of_idle hpending hidle, ?_, fun i => ?_, ?_, ?_, tick_of_noHoldOff,
      fun n period hn hperiod => ?_⟩
    · rw [frame]
      rfl
    · rw [frame]
      exact ⟨congrArg Clocks.poll (Table.get_map _ _ i), congrArg Clocks.deadline (Table.get_map _ _ i)⟩
    · rw [frame]
      rfl
    · rw [frame]
      rfl
    · rw [← holdOffTick_eq hn hperiod]
      exact tick_of_holdOff hn
  · have again := settle_settle hsettled
    refine ⟨fun before after => ?_, fun before after => ?_, ?_, ?_, ?_, ?_⟩
    · rw [exec_issue_settles before, exec_issue_settles after, again]
    · rw [exec_statusResult_settles before, exec_statusResult_settles after, again]
    · simp only [exec, execPollTimerExpiry, again]
    · simp only [exec, execDeadlineExpiry, again]
    · simp only [exec, execBarrierPass, again]
    · simp only [exec, execRendezvousTimeout, again]
end

section
/-! SUPPORT. The handling of an event as what it makes of its site, of that site's list, of the log and of the own
pull. -/
namespace Sys2Proof.Machine

/-! ## Records in order -/

/-- The state after some records have been offered, the first of the list first. -/
def offerAll (bs : List RecordBody) (s : State) : State := bs.foldl (fun t b => offer b t) s

theorem offerAll_append_one (bs : List RecordBody) (b : RecordBody) (s : State) :
    offerAll (bs ++ [b]) s = offer b (offerAll bs s) := by simp [offerAll]

/-- Offering records changes the log and the attention causes, nothing else. -/
theorem offerAll_frame (bs : List RecordBody) (s : State) : offerAll bs s =
    { s with log := (offerAll bs s).log, link := { s.link with causes := (offerAll bs s).link.causes } } := by
  induction bs generalizing s with
  | nil => rfl
  | cons b rest ih =>
    show offerAll rest (offer b s) = { s with
      log := (offerAll rest (offer b s)).log
      link := { s.link with causes := (offerAll rest (offer b s)).link.causes } }
    rw [ih, offer_frame]

@[simp] theorem offerAll_setup (bs : List RecordBody) (s : State) : (offerAll bs s).setup = s.setup := by
  rw [offerAll_frame]

@[simp] theorem offerAll_tie (bs : List RecordBody) (s : State) : (offerAll bs s).tie = s.tie := by
  rw [offerAll_frame]

@[simp] theorem offerAll_runner (bs : List RecordBody) (s : State) : (offerAll bs s).runner = s.runner := by
  rw [offerAll_frame]

/-- What the log becomes by offers depends on the log, the Setup fields and the station number only. -/
theorem offerAll_log_congr (bs : List RecordBody) {s t : State} (hlog : s.log = t.log) (hsetup : s.setup = t.setup)
    (hstation : s.tie.station = t.tie.station) : (offerAll bs s).log = (offerAll bs t).log := by
  induction bs generalizing s t with
  | nil => exact hlog
  | cons b rest ih =>
    exact ih (offer_log_congr b hlog hsetup hstation) (by simp [hsetup]) (by simp [hstation])

/-! ## Own pulls in order -/

/-- The Tie Port after an own-pull request (R136, R137). -/
def Tie.pull (t : Tie) (c : OwnCause) : Tie :=
  match t.ownPull, t.stop with
  | some _, _ => t
  | none, some _ => { t with ownPull := some c }
  | none, none => { t with ownPull := some c, stop := some c.toHalt, reported := false }

theorem requestPull_eq (c : OwnCause) (s : State) : requestPull c s = { s with tie := s.tie.pull c } := by
  rcases hpull : s.tie.ownPull with _ | _ <;> rcases hstop : s.tie.stop with _ | _ <;>
    simp [requestPull, Tie.pull, hpull, hstop]

@[simp] theorem Tie.pull_station (t : Tie) (c : OwnCause) : (t.pull c).station = t.station := by
  unfold Tie.pull
  split <;> rfl

@[simp] theorem foldl_pull_station (pulls : List OwnCause) (t : Tie) :
    (pulls.foldl Tie.pull t).station = t.station := by
  induction pulls generalizing t with
  | nil => rfl
  | cons c rest ih => exact (ih _).trans (t.pull_station c)

/-! ## Effects -/

/-- What a handling at a site comes to: the site's record and list, the records offered and the own pulls asked for, in
order. -/
structure Effect where
  site : Site
  list : List Entry
  records : List RecordBody
  pulls : List OwnCause

/-- The state after a handling at a site with an effect. -/
def State.handled (i : SiteId) (e : Effect) (s : State) : State :=
  { offerAll e.records s with
    sites := s.sites.set i e.site
    lists := s.lists.set i e.list
    tie := e.pulls.foldl Tie.pull s.tie }

/-- No effect. -/
def State.untouched (s : State) (i : SiteId) : Effect :=
  { site := s.site i, list := s.list i, records := [], pulls := [] }

theorem State.handled_untouched (i : SiteId) (s : State) : s.handled i (s.untouched i) = s := by
  simp [State.handled, State.untouched, offerAll, State.site, State.list]

/-- A handling changes its site, that site's list, the log, the Tie Port and the causes. -/
theorem State.handled_eq (i : SiteId) (e : Effect) (s : State) : s.handled i e =
    { s with
      sites := s.sites.set i e.site
      lists := s.lists.set i e.list
      tie := e.pulls.foldl Tie.pull s.tie
      log := (offerAll e.records s).log
      link := { s.link with causes := (offerAll e.records s).link.causes } } := by
  rw [State.handled, offerAll_frame]

@[simp] theorem State.handled_setup (i : SiteId) (e : Effect) (s : State) : (s.handled i e).setup = s.setup := by
  rw [State.handled_eq]

@[simp] theorem State.handled_runner (i : SiteId) (e : Effect) (s : State) : (s.handled i e).runner = s.runner := by
  rw [State.handled_eq]

@[simp] theorem State.handled_ports (i : SiteId) (e : Effect) (s : State) : (s.handled i e).ports = s.ports := by
  rw [State.handled_eq]

@[simp] theorem State.handled_clocks (i : SiteId) (e : Effect) (s : State) : (s.handled i e).clocks = s.clocks := by
  rw [State.handled_eq]

@[simp] theorem State.handled_site (i : SiteId) (e : Effect) (s : State) : (s.handled i e).site i = e.site :=
  Table.get_set_self _ _ _

@[simp] theorem State.handled_list (i : SiteId) (e : Effect) (s : State) : (s.handled i e).list i = e.list :=
  Table.get_set_self _ _ _

/-! ## The Site Table's operations on an effect -/

theorem modifySite_handled (i : SiteId) (f : Site → Site) (e : Effect) (s : State) :
    modifySite i f (s.handled i e) = s.handled i { e with site := f e.site } := by
  simp [modifySite, Table.modify, State.handled]

theorem offer_handled (i : SiteId) (b : RecordBody) (e : Effect) (s : State) :
    offer b (s.handled i e) = s.handled i { e with records := e.records ++ [b] } := by
  have commutes (t : State) (sites : PerSite Site) (lists : PerSite (List Entry)) (tie : Tie)
      (hstation : tie.station = t.tie.station) :
      offer b { t with sites := sites, lists := lists, tie := tie } =
        { offer b t with sites := sites, lists := lists, tie := tie } := by
    simp only [offer, hstation]
    split
    · rfl
    · split <;> split <;> rfl
  rw [State.handled, commutes _ _ _ _ (by simp), State.handled, offerAll_append_one]

theorem requestPull_handled (i : SiteId) (c : OwnCause) (e : Effect) (s : State) :
    requestPull c (s.handled i e) = s.handled i { e with pulls := e.pulls ++ [c] } := by
  simp [requestPull_eq, State.handled]

theorem setList_handled (i : SiteId) (l : List Entry) (e : Effect) (s : State) :
    { s.handled i e with lists := (s.handled i e).lists.set i l } = s.handled i { e with list := l } := by
  simp [State.handled]

/-- The site record with a condition raised (R79). -/
def Site.withCondition (x : Site) (c : Condition) : Site :=
  { x with current := x.current.add c, accrued := x.accrued.add c }

theorem raise_handled (i : SiteId) (c : Condition) (e : Effect) (s : State) :
    raise c i (s.handled i e) = s.handled i { e with site := e.site.withCondition c } := modifySite_handled _ _ _ _

/-- The effect with its site REJECTED, and the record of it (R82). -/
def Effect.reject (e : Effect) (i : SiteId) (c : Condition) (step : Nat) (block page : Option Nat) : Effect :=
  { e with
    site := { e.site with state := .rejected, reject := some { cause := c, step := step } }
    records := e.records ++ [.siteRejected { site := i, cause := c, step := step, block := block, page := page }] }

/-- A WAITING site is rejected (R82). -/
theorem rejectSite_handled {i : SiteId} {e : Effect} (hwaiting : e.site.state = .waiting) (c : Condition)
    (block page : Option Nat) (s : State) :
    rejectSite c i block page (s.handled i e) = s.handled i (e.reject i c s.runner.stepIndex block page) := by
  have inPlay : (s.handled i e).inPlay i = true := by simp [State.inPlay, State.isWaiting, hwaiting]
  rcases rejectSite_cases c i block page (s.handled i e) with ⟨out, _⟩ | ⟨_, h⟩
  · simp [inPlay] at out
  · rw [h, modifySite_handled, offer_handled, State.handled_runner]
    rfl

/-! ## The stop test and the filter's own action (R82, R83, R85) -/

/-- Conditions in neither stop mask stop nothing. -/
theorem stopTest_unmasked {raised : List Condition} {s : State} (h : ∀ c ∈ raised, s.unmasked c) (i : SiteId)
    (block page : Option Nat) : stopTest raised i block page s = s := by
  have noSite : raised.find? (fun c => s.setup.siteStop.has c) = none :=
    List.find?_eq_none.mpr fun c hc => by simp [(h c hc).1]
  have noStop : raised.any (fun c => s.setup.mainframeStop.has c) = false := by
    simpa using fun c hc => (h c hc).2
  simp [stopTest, noSite, noStop]

/-- The stop test where the site-stop mask holds a condition: the first one of them rejects the site (R82). -/
theorem stopTest_masked {raised : List Condition} {s : State} {c : Condition}
    (hsite : raised.find? (fun c => s.setup.siteStop.has c) = some c) (i : SiteId) (block page : Option Nat) :
    stopTest raised i block page s =
      if raised.any (fun c => s.setup.mainframeStop.has c) then
        requestPull .ownCondition (rejectSite c i block page s) else rejectSite c i block page s := by
  simp [stopTest, hsite]

/-- The stop test where the site-stop mask holds no condition (R83). -/
theorem stopTest_keptSite {raised : List Condition} {s : State}
    (hsite : raised.find? (fun c => s.setup.siteStop.has c) = none) (i : SiteId) (block page : Option Nat) :
    stopTest raised i block page s =
      if raised.any (fun c => s.setup.mainframeStop.has c) then requestPull .ownCondition s else s := by
  simp [stopTest, hsite]

/-! ## A handling acts at its site -/

/-- The second state comes from the first by a handling at a site. -/
def ActsAt (i : SiteId) (s t : State) : Prop := ∃ e, t = s.handled i e

theorem ActsAt.refl (i : SiteId) (s : State) : ActsAt i s s := ⟨_, (s.handled_untouched i).symm⟩

namespace ActsAt
variable {i : SiteId} {s t : State}

theorem modifySite (h : ActsAt i s t) (f : Site → Site) : ActsAt i s (modifySite i f t) := by
  obtain ⟨e, rfl⟩ := h
  exact ⟨_, modifySite_handled i f e s⟩

theorem raise (h : ActsAt i s t) (c : Condition) : ActsAt i s (raise c i t) := h.modifySite _

theorem offer (h : ActsAt i s t) (b : RecordBody) : ActsAt i s (offer b t) := by
  obtain ⟨e, rfl⟩ := h
  exact ⟨_, offer_handled i b e s⟩

theorem requestPull (h : ActsAt i s t) (c : OwnCause) : ActsAt i s (requestPull c t) := by
  obtain ⟨e, rfl⟩ := h
  exact ⟨_, requestPull_handled i c e s⟩

theorem setList (h : ActsAt i s t) (l : List Entry) : ActsAt i s { t with lists := t.lists.set i l } := by
  obtain ⟨e, rfl⟩ := h
  exact ⟨_, setList_handled i l e s⟩

theorem rejectSite (h : ActsAt i s t) (c : Condition) (block page : Option Nat) :
    ActsAt i s (rejectSite c i block page t) := by
  rcases rejectSite_cases c i block page t with ⟨_, e⟩ | ⟨_, e⟩ <;> rw [e]
  · exact h
  · exact (h.modifySite _).offer _

theorem stopTest (h : ActsAt i s t) (raised : List Condition) (block page : Option Nat) :
    ActsAt i s (stopTest raised i block page t) := by
  cases hsite : raised.find? fun c => t.setup.siteStop.has c with
  | some c =>
    rw [stopTest_masked hsite]
    split
    · exact (h.rejectSite c _ _).requestPull _
    · exact h.rejectSite c _ _
  | none =>
    rw [stopTest_keptSite hsite]
    split
    · exact h.requestPull _
    · exact h

theorem filterAction (h : ActsAt i s t) (a : Action) (block page : Option Nat) :
    ActsAt i s (filterAction a i block page t) := by
  cases a with
  | ignore => exact h
  | log => exact h
  | rejectSite => exact (h.raise _).rejectSite _ _ _
  | stopAll => exact (h.raise _).requestPull _

theorem requestListing (h : ActsAt i s t) (block : Nat) (page : Option Nat) (cause : ListCause) :
    ActsAt i s (requestListing i block page cause t).1 := by
  have taken : ActsAt i s (takeBlock i block page cause t).1 := by
    rcases takeBlock_cases i block page cause t with ⟨_, e⟩ | ⟨_, _, _, e⟩ | ⟨_, _, e⟩ <;> rw [e]
    · exact h
    · exact (h.setList _).offer _
    · exact h
  unfold Machine.requestListing
  dsimp only
  split
  · exact taken.raise _
  · exact taken

theorem listEvent (h : ActsAt i s t) (e : SiteEvent) (p : Position) : ActsAt i s (listEvent i e p t).1 := by
  unfold Machine.listEvent
  split
  · exact h.requestListing _ _ _
  · exact h

theorem updateTotals (h : ActsAt i s t) (e : SiteEvent) (p : Position) : ActsAt i s (updateTotals i e p t) := by
  cases e with
  | outcome o => exact h.modifySite _
  | opFailure status => exact h

/-- The six steps of R81 act at the event's site. -/
theorem handleFull (h : ActsAt i s t) (e : SiteEvent) (p : Position) (a : Action) (f : Option (Fin 4)) :
    ActsAt i s (handleFull i e p a f t) :=
  (((((h.raise _).updateTotals e p).listEvent e p).offer _).stopTest _ _ _).filterAction a _ _

/-- A classified event outside trial mode acts at its site (R157, R158). -/
theorem handleEvent (h : ActsAt i s t) (e : SiteEvent) (p : Position) : ActsAt i s (handleEvent i e p false t) := by
  unfold Machine.handleEvent
  dsimp only
  split
  · exact h
  · exact h.handleFull _ _ _ _

/-- A READY_TIMEOUT outside trial mode acts at its site (R48). -/
theorem handleTimeout (h : ActsAt i s t) (block page : Option Nat) :
    ActsAt i s (handleTimeout i block page false t) := (h.raise _).stopTest _ _ _

end ActsAt

/-! ## The end of the site's part after a handling (R52, R78) -/

theorem State.handled_site_ne {i j : SiteId} (h : j ≠ i) (e : Effect) (s : State) : (s.handled i e).site j = s.site j :=
  Table.get_set_ne _ _ h.symm

theorem State.handled_othersWait {i : SiteId} {s : State} (h : s.othersWait i) (e : Effect) :
    (s.handled i e).othersWait i := by
  obtain ⟨j, hj, hwaits⟩ := h
  exact ⟨j, hj, by rw [State.handled_site_ne hj]; exact hwaits⟩

/-- The effect with the site's part ended (R78). -/
def Effect.leave (e : Effect) : Effect := { e with site := e.site.leaveRound }

/-- The site's part ends after a handling that asks for no own pull. -/
theorem endPart_handled {i : SiteId} {s : State} {e : Effect} (hsettled : s.stopSettled = true)
    (hothers : s.othersWait i) (hpulls : e.pulls = []) : endPart i (s.handled i e) = s.handled i e.leave := by
  have settled : (s.handled i e).stopSettled = true := by
    simpa [State.stopSettled, State.handled, hpulls] using hsettled
  rw [endPart_of_others settled (State.handled_othersWait hothers e), modifySite_handled]
  rfl

/-- The state in which an own pull has brought a stop that the runner, with a round in flight, has taken (R17, R137). -/
def State.haltingBy (c : OwnCause) (s : State) : State :=
  { s with
    tie := { s.tie with ownPull := some c, stop := some c.toHalt, reported := true }
    runner := { s.runner with state := .halting, haltCause := some c.toHalt } }

/-- The site's part ends after a handling that pulls STOP: the runner takes the stop first (log entry 10). -/
theorem endPart_handled_pull {i : SiteId} {s : State} {e : Effect} {c : OwnCause} (hfree : s.runsFreely)
    (hfreeze : s.setup.freeze = false) (hothers : s.othersWait i) (hpulls : e.pulls = [c]) :
    endPart i (s.handled i e) = (s.handled i { e.leave with pulls := [] }).haltingBy c := by
  obtain ⟨hstate, hround, hstop, hpull⟩ := hfree
  have asked : s.handled i e = requestPull c (s.handled i { e with pulls := [] }) := by
    rw [requestPull_handled]
    simp [← hpulls]
  have taken : takeStop (s.handled i e) = (s.handled i { e with pulls := [] }).haltingBy c := by
    rw [asked, takeStop_requestPull (by exact hpull) (by exact hstop),
      runnerStop_inFlight (by simpa [State.pulling] using hstate) (by simpa [State.pulling] using hround)]
    simp [State.pulling, State.haltingBy, hfreeze]
  obtain ⟨j, hj, hwaits⟩ := hothers
  have left : modifySite i Site.leaveRound (takeStop (s.handled i e)) =
      (s.handled i { e.leave with pulls := [] }).haltingBy c := by
    have h := modifySite_handled i Site.leaveRound { e with pulls := [] } s
    rw [taken]
    exact congrArg (State.haltingBy c) h
  have waits : anyWaiting ((s.handled i { e.leave with pulls := [] }).haltingBy c) = true :=
    anyWaiting_of_waiting (i := j) ((congrArg Site.state (State.handled_site_ne hj _ s)).trans hwaits)
  rw [endPart, left]
  rcases endRoundIfDone_cases ((s.handled i { e.leave with pulls := [] }).haltingBy c) with ⟨_, quiet, _⟩ | ⟨_, h⟩
  · simp [waits] at quiet
  · exact h

/-- The end of a site's part after a handling changes the site, its list, the Tie Port, the runner, the log and the
causes, while another site is WAITING. -/
theorem endPart_frame {i : SiteId} {s t : State} (h : ActsAt i s t) (hothers : s.othersWait i) :
    ∃ x, endPart i t =
      { s with
        sites := s.sites.set i x, lists := s.lists.set i (t.list i), tie := (endPart i t).tie
        runner := (endPart i t).runner
        log := (endPart i t).log, link := { s.link with causes := (endPart i t).link.causes } } := by
  obtain ⟨e, rfl⟩ := h
  obtain ⟨runner, tie, log, causes, taken⟩ : ∃ runner tie log causes, takeStop (s.handled i e) =
      { s.handled i e with
        runner := runner, tie := tie, log := log, link := { (s.handled i e).link with causes := causes } } := by
    rcases takeStop_cases (s.handled i e) with ⟨_, h⟩ | ⟨cause, _, _, h⟩
    · exact ⟨_, _, _, _, h⟩
    · obtain ⟨runner, tie, log, causes, _, h'⟩ := runnerStop_frame cause
        { s.handled i e with tie := { (s.handled i e).tie with reported := true } }
      exact ⟨runner, tie, log, causes, h.trans h'⟩
  obtain ⟨j, hj, hwaits⟩ := hothers
  have waits : anyWaiting (modifySite i Site.leaveRound (takeStop (s.handled i e))) = true := by
    refine anyWaiting_of_waiting (i := j) ?_
    rw [modifySite_site_ne hj, taken]
    exact (congrArg Site.state (State.handled_site_ne hj e s)).trans hwaits
  have ends : endPart i (s.handled i e) = modifySite i Site.leaveRound (takeStop (s.handled i e)) := by
    rcases endRoundIfDone_cases (modifySite i Site.leaveRound (takeStop (s.handled i e))) with ⟨_, quiet, _⟩ | ⟨_, h⟩
    · simp [waits] at quiet
    · exact h
  refine ⟨e.site.leaveRound, ?_⟩
  rw [ends, taken, State.handled_list, State.handled_eq]
  simp [modifySite, Table.modify]

end Sys2Proof.Machine
end

section
/-! PROOFS. A status byte short of the match count, and the expiry of a deadline. -/
namespace Sys2Proof.Machine

/-! ## Status results (R45) -/

/-- The run count that a status byte leaves (R45). -/
def State.runAfter (s : State) (i : SiteId) (w : RoundWork) (status : Byte) : Nat :=
  if statusMatches s.setup w status then (s.site i).runCount + 1 else 0

/-- A status byte that does not complete the run of matches starts the poll timer again (R45). -/
theorem statusLive_short {s : State} {i : SiteId} {r : Round} {status : Byte}
    (hport : s.ports.get i = { current := some { tx := .status, live := true }, queued := none })
    (hshort : s.runAfter i r.work status ≠ roundMatchCount s.setup r.work) : statusLive i r status s =
      setClocks i { s.clocks.get i with poll := some (Timer.start s.setup.pollInterval) }
        (s.counted i (s.runAfter i r.work status)) := by
  have counted (n : Nat) : modifySite i (fun x => { x with runCount := n }) (setPort i (s.port i).ended s) =
      s.counted i n := by
    simp [modifySite, Table.modify, setPort, Port.ended, State.port, hport, State.counted, State.site]
  have short : (s.runAfter i r.work status == roundMatchCount s.setup r.work) = false := beq_false_of_ne hshort
  show (if (s.runAfter i r.work status == _) = true then _ else _) = _
  rw [short, counted]
  rfl

/-! ## The expiry of a deadline (R48) -/

/-- The state in which a site's timers are stopped and its transaction is discarded, with nothing queued (R48). -/
def State.abandoned (i : SiteId) (s : State) : State :=
  { s with
    clocks := s.clocks.set i { poll := none, deadline := none }
    ports := s.ports.set i
      { current := (s.ports.get i).current.map fun c => { c with live := false }, queued := none } }

/-- The expiry of a running deadline outside trial mode (R48). -/
theorem exec_deadlineExpiry_live {s : State} {i : SiteId} {r : Round} {x : Timer} (hround : s.round = some r)
    (htrial : r.trial = false) (hdeadline : (s.clocks.get i).deadline = some x)
    (hwaiting : (s.site i).state = .waiting) (hidle : s.busy = false) : exec (.deadlineExpiry i) s =
      .next (endPart i (handleTimeout i r.work.block r.work.page? false (s.abandoned i))) := by
  simp only [exec, execDeadlineExpiry, settle_of_not_busy hidle, deadlineEvent, hdeadline, hround, State.isWaiting,
    hwaiting, deadlineLive, htrial]
  rfl

/-- The effect of READY_TIMEOUT raised at a site: both sets, and the rejection where the site-stop mask holds it (R48,
R79, R82). -/
def State.timedOut (s : State) (i : SiteId) (block page : Option Nat) : Effect :=
  let raised : Effect := { s.untouched i with site := (s.site i).withCondition .readyTimeout }
  if s.setup.siteStop.has .readyTimeout then raised.reject i .readyTimeout s.runner.stepIndex block page else raised

theorem State.timedOut_list (s : State) (i : SiteId) (block page : Option Nat) :
    (s.timedOut i block page).list = s.list i := by
  unfold State.timedOut
  split <;> rfl

theorem State.timedOut_pulls (s : State) (i : SiteId) (block page : Option Nat) :
    (s.timedOut i block page).pulls = [] := by
  unfold State.timedOut
  split <;> rfl

theorem State.timedOut_kept {s : State} (h : s.setup.siteStop.has .readyTimeout = false) (i : SiteId)
    (block page : Option Nat) :
    s.timedOut i block page = { s.untouched i with site := (s.site i).withCondition .readyTimeout } := by
  simp [State.timedOut, h]

theorem State.timedOut_rejected {s : State} (h : s.setup.siteStop.has .readyTimeout = true) (i : SiteId)
    (block page : Option Nat) : s.timedOut i block page =
      Effect.reject { s.untouched i with site := (s.site i).withCondition .readyTimeout } i .readyTimeout
        s.runner.stepIndex block page := by
  simp [State.timedOut, h]

/-- The handling of a READY_TIMEOUT that is not in the mainframe-stop mask (R48, R81, R82). -/
theorem handleTimeout_eq {s : State} {i : SiteId} (hwaiting : (s.site i).state = .waiting)
    (hstop : s.setup.mainframeStop.has .readyTimeout = false) (block page : Option Nat) :
    handleTimeout i block page false s = s.handled i (s.timedOut i block page) := by
  have raised : raise .readyTimeout i s =
      s.handled i { s.untouched i with site := (s.site i).withCondition .readyTimeout } := by
    conv_lhs => rw [← s.handled_untouched i]
    exact raise_handled _ _ _ _
  show stopTest [.readyTimeout] i block page (raise .readyTimeout i s) = _
  rw [raised]
  cases hsite : s.setup.siteStop.has .readyTimeout with
  | true =>
    rw [stopTest_masked (c := .readyTimeout) (by simp [hsite]), rejectSite_handled hwaiting,
      State.timedOut_rejected hsite]
    simp [hstop]
  | false =>
    rw [stopTest_keptSite (by simp [hsite]), State.timedOut_kept hsite]
    simp [hstop]

/-- The site's part ends with the handling of its READY_TIMEOUT (R48, R78). -/
theorem endPart_timedOut {s : State} {i : SiteId} (hwaiting : (s.site i).state = .waiting)
    (hstop : s.setup.mainframeStop.has .readyTimeout = false) (hsettled : s.stopSettled = true)
    (hothers : s.othersWait i) (block page : Option Nat) :
    endPart i (handleTimeout i block page false (s.abandoned i)) =
      (s.abandoned i).handled i (s.timedOut i block page).leave := by
  rw [handleTimeout_eq (s := s.abandoned i) hwaiting hstop]
  exact endPart_handled (s := s.abandoned i) hsettled hothers (State.timedOut_pulls s i block page)

end Sys2Proof.Machine

open Sys2Proof Sys2Proof.Machine

/-- Settles O43: the run is short of the match count, so the site neither becomes ready nor ends its part. -/
theorem statusReadsAreCounted : Obligations.StatusReadsAreCounted := by
  intro s i r status hround hwaiting hphase hport hidle matched needed count hshort
  have hneeded : needed = roundMatchCount s.setup r.work := rfl
  have hcount : count = s.runAfter i r.work status := rfl
  rw [hcount, hneeded] at hshort
  rw [exec_statusResult_live status hround hport hwaiting hphase hidle, statusLive_short hport hshort]
  rfl

/-- Settles O46: READY_TIMEOUT rejects the site or is only raised; then the site's part ends. -/
theorem deadlineRaisesReadyTimeout : Obligations.DeadlineRaisesReadyTimeout := by
  intro s i r x hround htrial hdeadline hwaiting hstop hothers hsettled hidle block page
  have expires := exec_deadlineExpiry_live hround htrial hdeadline hwaiting hidle
  have hblock : r.work.block = block := rfl
  have hpage : r.work.page? = page := rfl
  rw [hblock, hpage] at expires
  rw [endPart_timedOut hwaiting hstop hsettled hothers] at expires
  refine ⟨_, expires, ?_, ?_, ?_, fun j hj => ?_, fun hsite => ?_, fun hsite => ?_⟩
  · rw [State.handled_eq, Effect.leave, State.timedOut_list, State.timedOut_pulls]
    simp [State.abandoned, State.list]
  · rw [State.handled_clocks]
    exact Table.get_set_self _ _ _
  · rw [State.handled_ports]
    exact Table.get_set_self _ _ _
  · rw [State.handled_site_ne hj, State.handled_ports, State.handled_clocks]
    exact ⟨rfl, Table.get_set_ne _ _ hj.symm, Table.get_set_ne _ _ hj.symm⟩
  · rw [State.timedOut_kept hsite, State.handled_site]
    exact ⟨rfl, rfl, Site.leaveRound_of_waiting hwaiting⟩
  · rw [State.timedOut_rejected hsite, State.handled_site]
    exact ⟨offer_log_congr _ rfl rfl rfl, rfl⟩
end

section
/-! SUPPORT. The six steps of an event's handling outside trial mode (R81), as effects at the event's site. -/
namespace Sys2Proof.Machine

/-! ## Classification (R157) -/

theorem decidingFilter_none {filters : Table 4 Filter} (h : ∀ f, (filters.get f).enabled = false) (i : SiteId)
    (block : Nat) (page : Option Nat) (total : Nat) : decidingFilter filters i block page total = none :=
  List.find?_eq_none.mpr fun f _ => by simp [Filter.matchesEvent, h f]

/-- An ignored event leaves the state as it is (R158). -/
theorem handleEvent_ignored {s : State} {i : SiteId} {e : SiteEvent} {p : Position}
    (h : classify s (decidingFilter s.filters i p.block p.page e.total) = .ignore) (trial : Bool) :
    handleEvent i e p trial s = s := by
  simp [handleEvent, h]

/-- Any other event outside trial mode is handled in full (R158). -/
theorem handleEvent_full {s : State} {i : SiteId} {e : SiteEvent} {p : Position} {f : Option (Fin 4)} {a : Action}
    (hfilter : decidingFilter s.filters i p.block p.page e.total = f) (haction : classify s f = a)
    (h : a ≠ .ignore) : handleEvent i e p false s = handleFull i e p a f s := by
  subst hfilter haction
  unfold handleEvent
  dsimp only
  split
  · next ignored => exact absurd ignored h
  · rfl

/-- Without a filter and with the default action LOG an event is logged (R157). -/
theorem handleEvent_byDefault {s : State} (h : s.logsByDefault) (i : SiteId) (e : SiteEvent) (p : Position) :
    handleEvent i e p false s = handleFull i e p .log none s :=
  handleEvent_full (decidingFilter_none h.1 _ _ _ _) (by simp [classify, h.2]) (by simp)

/-! ## Steps 1 and 2: the condition and the totals (R71, R79, R81) -/

/-- The site record after steps 1 and 2 of a handling. -/
def Site.withEvent (x : Site) (e : SiteEvent) (p : Position) : Site :=
  match e with
  | .outcome o => (x.withCondition e.condition).addOutcome o p.block (p.page.getD 0)
  | .opFailure _ => x.withCondition e.condition

theorem Site.withEvent_state (x : Site) (e : SiteEvent) (p : Position) : (x.withEvent e p).state = x.state := by
  cases e <;> rfl

/-- The effect of steps 1 and 2. -/
def State.counts (s : State) (i : SiteId) (e : SiteEvent) (p : Position) : Effect :=
  { s.untouched i with site := (s.site i).withEvent e p }

theorem updateTotals_raise (i : SiteId) (e : SiteEvent) (p : Position) (s : State) :
    updateTotals i e p (raise e.condition i s) = s.handled i (s.counts i e p) := by
  have raised : raise e.condition i s =
      s.handled i { s.untouched i with site := (s.site i).withCondition e.condition } := by
    conv_lhs => rw [← s.handled_untouched i]
    exact raise_handled _ _ _ _
  rw [raised]
  cases e with
  | outcome o => exact modifySite_handled _ _ _ _
  | opFailure status => rfl

/-! ## Step 3: the listing request (R97, R98, R100) -/

theorem listHolds_iff (l : List Entry) (block : Nat) : listHolds l block = true ↔ ∃ e ∈ l, e.block = block := by
  simp [listHolds]

theorem listHolds_eq_false_iff (l : List Entry) (block : Nat) :
    listHolds l block = false ↔ ∀ e ∈ l, e.block ≠ block := by
  simp [listHolds]

/-- An event without a listing request, or with one for a listed block, lists nothing (R97, R98). -/
theorem listEvent_nothing {s : State} {i : SiteId} {e : SiteEvent} {p : Position}
    (h : listingCause e p.kind = none ∨ listHolds (s.list i) p.block = true) : listEvent i e p s = (s, false) := by
  unfold listEvent
  cases hcause : listingCause e p.kind with
  | none => rfl
  | some cause =>
    have listed : listHolds (s.list i) p.block = true := by simpa [hcause] using h
    simp [requestListing, takeBlock, listed]

/-- A listing request below the limit appends the block and offers its record (R98, R99). -/
theorem listEvent_appends {s : State} {i : SiteId} {e : SiteEvent} {p : Position} {cause : ListCause}
    (hcause : listingCause e p.kind = some cause) (hnew : listHolds (s.list i) p.block = false)
    (hroom : (s.list i).length < s.setup.listLimit) : listEvent i e p s =
      (offer (.blockBad { site := i, block := p.block, page := p.page, cause := cause, step := s.runner.stepIndex
                          count := (s.list i).length + 1 })
        { s with
          lists := s.lists.set i
            (s.list i ++ [{ block := p.block, found := some { cause := cause, step := s.runner.stepIndex } }]) },
        false) := by
  simp [listEvent, hcause, requestListing, takeBlock, hnew, hroom]

/-- A listing request at the limit raises BAD_LIMIT (R98, R100). -/
theorem listEvent_atLimit {s : State} {i : SiteId} {e : SiteEvent} {p : Position} {cause : ListCause}
    (hcause : listingCause e p.kind = some cause) (hnew : listHolds (s.list i) p.block = false)
    (hfull : s.setup.listLimit ≤ (s.list i).length) : listEvent i e p s = (raise .badLimit i s, true) := by
  simp [listEvent, hcause, requestListing, takeBlock, hnew, Nat.not_lt.mpr hfull]

/-! ## Steps 1 to 4, and what is left of the handling -/

/-- The page-fail record of an event outside trial mode, which decider `f` let through (R153). -/
def State.eventRecord (s : State) (i : SiteId) (e : SiteEvent) (p : Position) (f : Option (Fin 4)) : RecordBody :=
  .pageFail (pageFailRecord i e p f none s)

/-- The BLOCK_BAD record of a block that a site's list takes (R99). -/
def State.blockRecord (s : State) (i : SiteId) (p : Position) (cause : ListCause) : RecordBody :=
  .blockBad { site := i, block := p.block, page := p.page, cause := cause, step := s.runner.stepIndex
              count := (s.list i).length + 1 }

/-- A site's list with a block found bad (R98). -/
def State.listWith (s : State) (i : SiteId) (p : Position) (cause : ListCause) : List Entry :=
  s.list i ++ [{ block := p.block, found := some { cause := cause, step := s.runner.stepIndex } }]

/-- The effect of steps 1 to 4 of a handling that lists nothing. -/
def State.notes (s : State) (i : SiteId) (e : SiteEvent) (p : Position) (f : Option (Fin 4)) : Effect :=
  { s.counts i e p with records := [s.eventRecord i e p f] }

/-- The effect of steps 1 to 4 of a handling that lists the block: its record comes first (R81). -/
def State.appends (s : State) (i : SiteId) (e : SiteEvent) (p : Position) (f : Option (Fin 4)) (cause : ListCause) :
    Effect :=
  { s.counts i e p with
    list := s.listWith i p cause
    records := [s.blockRecord i p cause, s.eventRecord i e p f] }

/-- The effect of steps 1 to 4 of a handling that finds the list at its limit (R100). -/
def State.overfills (s : State) (i : SiteId) (e : SiteEvent) (p : Position) (f : Option (Fin 4)) : Effect :=
  { s.notes i e p f with site := ((s.site i).withEvent e p).withCondition .badLimit }

/-- Steps 5 and 6 of a handling: the stop test over the conditions raised, and the filter's own action (R82, R85). -/
def stopsFor (raised : List Condition) (i : SiteId) (p : Position) (a : Action) (s : State) : State :=
  filterAction a i (some p.block) p.page (stopTest raised i (some p.block) p.page s)

/-- The handling from the effect of its first three steps on. -/
theorem handleFull_of_listEvent {s : State} {i : SiteId} {e : SiteEvent} {p : Position} {x : Effect} {limit : Bool}
    (h : listEvent i e p (s.handled i (s.counts i e p)) = (s.handled i x, limit)) (a : Action) (f : Option (Fin 4)) :
    handleFull i e p a f s = stopsFor (if limit then [e.condition, .badLimit] else [e.condition]) i p a
      (s.handled i { x with records := x.records ++ [s.eventRecord i e p f] }) := by
  have record : pageFailRecord i e p f none (s.handled i x) = pageFailRecord i e p f none s := by
    simp [pageFailRecord]
  have step4 : offer (.pageFail (pageFailRecord i e p f none (s.handled i x))) (s.handled i x) =
      s.handled i { x with records := x.records ++ [s.eventRecord i e p f] } := by
    rw [offer_handled, record]
    rfl
  unfold handleFull
  dsimp only
  rw [updateTotals_raise, h, step4]
  rfl

/-- A handling that lists nothing, for want of a listing request or because the block is listed (R97, R98). -/
theorem handleFull_notes {s : State} {i : SiteId} {e : SiteEvent} {p : Position}
    (h : listingCause e p.kind = none ∨ ∃ x ∈ s.list i, x.block = p.block) (a : Action) (f : Option (Fin 4)) :
    handleFull i e p a f s = stopsFor [e.condition] i p a (s.handled i (s.notes i e p f)) :=
  handleFull_of_listEvent (x := s.counts i e p) (limit := false)
    (listEvent_nothing (by rwa [State.handled_list, listHolds_iff])) a f

/-- A handling that lists the block (R98, R99). -/
theorem handleFull_appends {s : State} {i : SiteId} {e : SiteEvent} {p : Position} {cause : ListCause}
    (hcause : listingCause e p.kind = some cause) (hnew : ∀ x ∈ s.list i, x.block ≠ p.block)
    (hroom : (s.list i).length < s.setup.listLimit) (a : Action) (f : Option (Fin 4)) :
    handleFull i e p a f s = stopsFor [e.condition] i p a (s.handled i (s.appends i e p f cause)) := by
  have unlisted := (listHolds_eq_false_iff _ _).mpr hnew
  have listed : listEvent i e p (s.handled i (s.counts i e p)) = (s.handled i { s.counts i e p with
      list := s.listWith i p cause, records := [s.blockRecord i p cause] }, false) := by
    have step3 := listEvent_appends (i := i) (s := s.handled i (s.counts i e p)) hcause (by simpa [State.counts, State.untouched] using unlisted)
      (by simpa [State.counts, State.untouched] using hroom)
    rw [step3, setList_handled, offer_handled]
    simp [State.counts, State.untouched, State.listWith, State.blockRecord]
  exact handleFull_of_listEvent listed a f

/-- A handling whose listing request finds the list at its limit (R98, R100). -/
theorem handleFull_overfills {s : State} {i : SiteId} {e : SiteEvent} {p : Position} {cause : ListCause}
    (hcause : listingCause e p.kind = some cause) (hnew : ∀ x ∈ s.list i, x.block ≠ p.block)
    (hfull : s.setup.listLimit ≤ (s.list i).length) (a : Action) (f : Option (Fin 4)) :
    handleFull i e p a f s = stopsFor [e.condition, .badLimit] i p a (s.handled i (s.overfills i e p f)) := by
  have unlisted := (listHolds_eq_false_iff _ _).mpr hnew
  have listed : listEvent i e p (s.handled i (s.counts i e p)) = (s.handled i { s.counts i e p with
      site := ((s.site i).withEvent e p).withCondition .badLimit }, true) := by
    rw [listEvent_atLimit hcause (by simpa [State.counts, State.untouched] using unlisted)
      (by simpa [State.counts, State.untouched] using hfull), raise_handled]
    rfl
  exact handleFull_of_listEvent listed a f

/-! ## Stops and filters after the record (R82, R83, R85) -/

theorem handled_unmasked {s : State} {c : Condition} (h : s.unmasked c) (i : SiteId) (e : Effect) :
    (s.handled i e).unmasked c := by
  rw [State.unmasked, State.handled_setup]
  exact h

/-- A logged event whose conditions are in neither mask stops nothing. -/
theorem stopsFor_log {raised : List Condition} {s : State} (h : ∀ c ∈ raised, s.unmasked c) (i : SiteId)
    (p : Position) : stopsFor raised i p .log s = s := stopTest_unmasked h i _ _

/-- A logged event whose first masked condition rejects the WAITING site, and which stops nothing else (R82). -/
theorem stopsFor_log_rejects {raised : List Condition} {s : State} {i : SiteId} {e : Effect} {c : Condition}
    (hsite : raised.find? (fun c => s.setup.siteStop.has c) = some c)
    (hstop : raised.any (fun c => s.setup.mainframeStop.has c) = false) (hwaiting : e.site.state = .waiting)
    (p : Position) : stopsFor raised i p .log (s.handled i e) =
      s.handled i (e.reject i c s.runner.stepIndex (some p.block) p.page) := by
  show stopTest _ _ _ _ _ = _
  rw [stopTest_masked (by simpa using hsite), rejectSite_handled hwaiting]
  simp [hstop]

/-- A logged event with a condition in the mainframe-stop mask pulls STOP, after a rejection by the site-stop mask
(R82, R83). -/
theorem stopsFor_log_pulls {s : State} {i : SiteId} {e : Effect} {c : Condition}
    (hstop : s.setup.mainframeStop.has c = true) (hwaiting : e.site.state = .waiting) (p : Position) :
    stopsFor [c] i p .log (s.handled i e) = requestPull .ownCondition (s.handled i
      (if s.setup.siteStop.has c then e.reject i c s.runner.stepIndex (some p.block) p.page else e)) := by
  show stopTest _ _ _ _ _ = _
  cases hsite : s.setup.siteStop.has c with
  | true =>
    rw [stopTest_masked (c := c) (by simp [hsite]), rejectSite_handled hwaiting]
    simp [hstop]
  | false =>
    rw [stopTest_keptSite (by simp [hsite])]
    simp [hstop]

/-- The filter action REJECT_SITE at a WAITING site (R85). -/
theorem stopsFor_rejectSite {raised : List Condition} {s : State} {i : SiteId} {e : Effect}
    (h : ∀ c ∈ raised, s.unmasked c) (hwaiting : e.site.state = .waiting) (p : Position) :
    stopsFor raised i p .rejectSite (s.handled i e) = s.handled i (Effect.reject
      { e with site := e.site.withCondition .filterStop } i .filterStop s.runner.stepIndex (some p.block) p.page) := by
  show filterAction _ _ _ _ (stopTest _ _ _ _ _) = _
  rw [stopTest_unmasked fun c hc => handled_unmasked (h c hc) i e]
  show rejectSite _ _ _ _ (raise _ _ _) = _
  rw [raise_handled]
  exact rejectSite_handled (by exact hwaiting) _ _ _ _

/-- The filter action STOP_ALL (R85). -/
theorem stopsFor_stopAll {raised : List Condition} {s : State} {i : SiteId} {e : Effect}
    (h : ∀ c ∈ raised, s.unmasked c) (p : Position) : stopsFor raised i p .stopAll (s.handled i e) =
      requestPull .ownFilter (s.handled i { e with site := e.site.withCondition .filterStop }) := by
  show filterAction _ _ _ _ (stopTest _ _ _ _ _) = _
  rw [stopTest_unmasked fun c hc => handled_unmasked (h c hc) i e]
  show requestPull _ (raise _ _ _) = _
  rw [raise_handled]

theorem rejectSite_lists (c : Condition) (i : SiteId) (block page : Option Nat) (s : State) :
    (rejectSite c i block page s).lists = s.lists := by
  rcases rejectSite_cases c i block page s with ⟨_, h⟩ | ⟨_, h⟩ <;> simp [h]

/-- Steps 5 and 6 of a handling leave the lists alone. -/
theorem stopsFor_lists (raised : List Condition) (i : SiteId) (p : Position) (a : Action) (s : State) :
    (stopsFor raised i p a s).lists = s.lists := by
  have test : (stopTest raised i (some p.block) p.page s).lists = s.lists := by
    cases hsite : raised.find? fun c => s.setup.siteStop.has c with
    | some c =>
      rw [stopTest_masked hsite]
      split <;> simp [requestPull_eq, rejectSite_lists]
    | none =>
      rw [stopTest_keptSite hsite]
      split <;> simp [requestPull_eq]
  cases a with
  | ignore => exact test
  | log => exact test
  | rejectSite => simpa [stopsFor, filterAction, rejectSite_lists] using test
  | stopAll => simpa [stopsFor, filterAction, requestPull_eq] using test

/-- An event at a listed block leaves the site's list as it was (R98). -/
theorem handleEvent_list_of_listed {s : State} {i : SiteId} {p : Position} (e : SiteEvent)
    (h : ∃ x ∈ s.list i, x.block = p.block) : (handleEvent i e p false s).list i = s.list i := by
  unfold handleEvent
  dsimp only
  split
  · rfl
  · rw [if_neg (by simp), handleFull_notes (.inr h), State.list, stopsFor_lists]
    exact State.handled_list i (s.notes i e p _) s

/-! ## The part of a site that ends with the handling of its event -/

/-- A logged event that lists nothing, its condition in neither mask. -/
theorem endPart_notes {s : State} {i : SiteId} {e : SiteEvent} {p : Position} {f : Option (Fin 4)}
    (hlog : handleEvent i e p false s = handleFull i e p .log f s)
    (hlist : listingCause e p.kind = none ∨ ∃ x ∈ s.list i, x.block = p.block) (hunmasked : s.unmasked e.condition)
    (hsettled : s.stopSettled = true) (hothers : s.othersWait i) :
    endPart i (handleEvent i e p false s) = s.handled i (s.notes i e p f).leave := by
  rw [hlog, handleFull_notes hlist, stopsFor_log (by simpa using handled_unmasked hunmasked i _),
    endPart_handled hsettled hothers rfl]

/-- A logged event that lists the block, its condition in neither mask. -/
theorem endPart_appends {s : State} {i : SiteId} {e : SiteEvent} {p : Position} {f : Option (Fin 4)}
    {cause : ListCause} (hlog : handleEvent i e p false s = handleFull i e p .log f s)
    (hcause : listingCause e p.kind = some cause) (hnew : ∀ x ∈ s.list i, x.block ≠ p.block)
    (hroom : (s.list i).length < s.setup.listLimit) (hunmasked : s.unmasked e.condition)
    (hsettled : s.stopSettled = true) (hothers : s.othersWait i) :
    endPart i (handleEvent i e p false s) = s.handled i (s.appends i e p f cause).leave := by
  rw [hlog, handleFull_appends hcause hnew hroom, stopsFor_log (by simpa using handled_unmasked hunmasked i _),
    endPart_handled hsettled hothers rfl]

/-- A logged event that finds the list at its limit, its condition in neither mask and BAD_LIMIT not in the
mainframe-stop mask: BAD_LIMIT rejects the site where the site-stop mask holds it (R82, R100). -/
theorem endPart_overfills {s : State} {i : SiteId} {e : SiteEvent} {p : Position} {f : Option (Fin 4)}
    {cause : ListCause} (hlog : handleEvent i e p false s = handleFull i e p .log f s)
    (hcause : listingCause e p.kind = some cause) (hnew : ∀ x ∈ s.list i, x.block ≠ p.block)
    (hlimit : s.setup.listLimit ≤ (s.list i).length) (hunmasked : s.unmasked e.condition)
    (hstop : s.setup.mainframeStop.has .badLimit = false) (hwaiting : (s.site i).state = .waiting)
    (hsettled : s.stopSettled = true) (hothers : s.othersWait i) :
    endPart i (handleEvent i e p false s) = s.handled i
      (if s.setup.siteStop.has .badLimit then
        (s.overfills i e p f).reject i .badLimit s.runner.stepIndex (some p.block) p.page
      else s.overfills i e p f).leave := by
  have waits : (s.overfills i e p f).site.state = .waiting := ((s.site i).withEvent_state e p).trans hwaiting
  rw [hlog, handleFull_overfills hcause hnew hlimit]
  cases hsite : s.setup.siteStop.has .badLimit with
  | true =>
    rw [stopsFor_log_rejects (c := .badLimit) (by simp [hsite, hunmasked.1]) (by simp [hstop, hunmasked.2]) waits,
      endPart_handled hsettled hothers rfl]
    rfl
  | false =>
    rw [stopsFor_log (by simpa using ⟨handled_unmasked hunmasked i _, handled_unmasked ⟨hsite, hstop⟩ i _⟩),
      endPart_handled hsettled hothers rfl]
    rfl

/-- A logged event that lists nothing, its condition in the mainframe-stop mask: after a rejection by the site-stop mask
STOP is pulled, and the runner takes it (R17, R82, R83). -/
theorem endPart_notes_pulls {s : State} {i : SiteId} {e : SiteEvent} {p : Position} {f : Option (Fin 4)}
    (hlog : handleEvent i e p false s = handleFull i e p .log f s)
    (hlist : listingCause e p.kind = none ∨ ∃ x ∈ s.list i, x.block = p.block)
    (hstop : s.setup.mainframeStop.has e.condition = true) (hwaiting : (s.site i).state = .waiting)
    (hfree : s.runsFreely) (hfreeze : s.setup.freeze = false) (hothers : s.othersWait i) :
    endPart i (handleEvent i e p false s) = (s.handled i
      (if s.setup.siteStop.has e.condition then
        (s.notes i e p f).leave.reject i e.condition s.runner.stepIndex (some p.block) p.page
      else (s.notes i e p f).leave)).haltingBy .ownCondition := by
  have waits : (s.notes i e p f).site.state = .waiting := ((s.site i).withEvent_state e p).trans hwaiting
  rw [hlog, handleFull_notes hlist, stopsFor_log_pulls hstop waits, requestPull_handled,
    endPart_handled_pull (c := .ownCondition) hfree hfreeze hothers (by split <;> rfl)]
  split <;> rfl

/-- The effect of an event that lists nothing, with FILTER_STOP raised after it (R85). -/
def State.notesStop (s : State) (i : SiteId) (e : SiteEvent) (p : Position) (f : Option (Fin 4)) : Effect :=
  { s.notes i e p f with site := ((s.site i).withEvent e p).withCondition .filterStop }

/-- An event that lists nothing, its condition in neither mask, under a filter's REJECT_SITE (R85). -/
theorem endPart_notes_rejected {s : State} {i : SiteId} {e : SiteEvent} {p : Position} {f : Option (Fin 4)}
    (haction : handleEvent i e p false s = handleFull i e p .rejectSite f s)
    (hlist : listingCause e p.kind = none ∨ ∃ x ∈ s.list i, x.block = p.block) (hunmasked : s.unmasked e.condition)
    (hwaiting : (s.site i).state = .waiting) (hsettled : s.stopSettled = true) (hothers : s.othersWait i) :
    endPart i (handleEvent i e p false s) = s.handled i
      ((s.notesStop i e p f).leave.reject i .filterStop s.runner.stepIndex (some p.block) p.page) := by
  have waits : (s.notes i e p f).site.state = .waiting := ((s.site i).withEvent_state e p).trans hwaiting
  rw [haction, handleFull_notes hlist, stopsFor_rejectSite (by simpa using hunmasked) waits,
    endPart_handled hsettled hothers rfl]
  rfl

/-- An event that lists nothing, its condition in neither mask, under a filter's STOP_ALL (R17, R85). -/
theorem endPart_notes_stopped {s : State} {i : SiteId} {e : SiteEvent} {p : Position} {f : Option (Fin 4)}
    (haction : handleEvent i e p false s = handleFull i e p .stopAll f s)
    (hlist : listingCause e p.kind = none ∨ ∃ x ∈ s.list i, x.block = p.block) (hunmasked : s.unmasked e.condition)
    (hfree : s.runsFreely) (hfreeze : s.setup.freeze = false) (hothers : s.othersWait i) :
    endPart i (handleEvent i e p false s) = (s.handled i (s.notesStop i e p f).leave).haltingBy .ownFilter := by
  rw [haction, handleFull_notes hlist, stopsFor_stopAll (by simpa using hunmasked), requestPull_handled,
    endPart_handled_pull (c := .ownFilter) hfree hfreeze hothers rfl]
  rfl

end Sys2Proof.Machine
end

section
/-! PROOFS. Operation failures. -/
namespace Sys2Proof.Machine

/-! ## The op-result check (R49) -/

/-- The page-fail record of an operation failure of an ERASE or PROGRAM round (R153). -/
theorem eventRecord_opFailure {p : Position} (hkind : p.kind ≠ .read) (s : State) (i : SiteId) (status : Byte)
    (f : Option (Fin 4)) : s.eventRecord i (.opFailure status) p f = .pageFail
      { site := i, block := p.block, page := p.page, step := s.runner.stepIndex
        source := if p.kind = .erase then .eraseStatus else .programStatus
        outcome := .opFail, figures := none, status := some status, filter := f.map Fin.val, trialCode := none } := by
  cases h : p.kind <;> simp_all [State.eventRecord, pageFailRecord, eventSource, SiteEvent.condition]

/-- An operation failure of an ERASE or PROGRAM round makes a listing request (R97). -/
theorem listingCause_opFailure {p : Position} (hkind : p.kind ≠ .read) (status : Byte) :
    listingCause (.opFailure status) p.kind = some .opFail := by
  cases h : p.kind <;> simp_all [listingCause]

/-- The op-result check fails: the site, ready, has its operation failure handled and ends its part (R49). -/
theorem State.FailsNext.exec_eq {s : State} {i : SiteId} {p : Position} {status : Byte} (h : s.FailsNext i p status) :
    exec (.statusResult i status) s =
      .next (endPart i (handleEvent i (.opFailure status) p false (s.readyAt i s.setup.matchCount))) := by
  obtain ⟨r, pre, hround, hwork, htrial⟩ := h.round
  rw [exec_statusResult_live status hround h.port h.waiting.1 h.waiting.2 h.settled.2,
    statusLive_ready h.port (by simp [statusMatches, hwork, h.ready.1]) h.ready.2 (by simp [roundMatchCount, hwork])]
  have failed : opFailed (s.counted i s.setup.matchCount).setup status = true := by
    simpa [opFailed, State.counted] using h.failed
  simp only [siteReady, hwork, failed, htrial]
  rfl

/-! ## The effects of an operation failure -/

/-- The site's part ends with its rejection: it stays REJECTED (R78). -/
theorem Effect.leave_reject (e : Effect) (i : SiteId) (c : Condition) (step : Nat) (block page : Option Nat) :
    (e.reject i c step block page).leave = e.leave.reject i c step block page := rfl

/-- The record of a site whose part has ended with an operation failure and some conditions raised. -/
def State.failedSite (s : State) (i : SiteId) (raised : CondSet) : Site :=
  { s.site i with
    runCount := s.setup.matchCount, state := .active, phase := none
    current := (s.site i).current ||| raised, accrued := (s.site i).accrued ||| raised }

theorem State.failedSite_withCondition (s : State) (i : SiteId) (raised : CondSet) (c : Condition) :
    (s.failedSite i raised).withCondition c = s.failedSite i (raised ||| BitVec.twoPow 7 c.bit) := by
  simp [State.failedSite, Site.withCondition, CondSet.add, BitVec.or_assoc]

/-- The page-fail record of an operation failure (R153). -/
def State.failedRecord (s : State) (i : SiteId) (p : Position) (status : Byte) (filter : Option Nat) : RecordBody :=
  .pageFail
    { site := i, block := p.block, page := p.page, step := s.runner.stepIndex
      source := if p.kind = .erase then .eraseStatus else .programStatus
      outcome := .opFail, figures := none, status := some status, filter := filter, trialCode := none }

/-- The effect of an operation failure that lists nothing, with some conditions raised. -/
def State.failed (s : State) (i : SiteId) (p : Position) (status : Byte) (f : Option (Fin 4)) (raised : CondSet) :
    Effect :=
  { site := s.failedSite i raised, list := s.list i
    records := [s.failedRecord i p status (f.map Fin.val)], pulls := [] }

section
variable {s : State} {i : SiteId} {p : Position} {status : Byte}

/-- An operation failure raises OP_FAIL at the ready site, whose part then ends. -/
theorem State.FailsNext.withEvent_leave (h : s.FailsNext i p status) :
    (((s.readyAt i s.setup.matchCount).site i).withEvent (.opFailure status) p).leaveRound = s.failedSite i 4 := by
  have site : (s.readyAt i s.setup.matchCount).site i = { s.site i with runCount := s.setup.matchCount } :=
    Table.get_set_self _ _ _
  rw [site]
  exact Site.leaveRound_of_waiting (x := { s.site i with runCount := s.setup.matchCount } |>.withCondition .opFail)
    h.waiting.1

theorem State.FailsNext.notes_leave (h : s.FailsNext i p status) (f : Option (Fin 4)) :
    ((s.readyAt i s.setup.matchCount).notes i (.opFailure status) p f).leave = s.failed i p status f 4 := by
  simp only [State.notes, Effect.leave, State.counts, eventRecord_opFailure h.kind, h.withEvent_leave]
  rfl

theorem State.FailsNext.appends_leave (h : s.FailsNext i p status) (f : Option (Fin 4)) :
    ((s.readyAt i s.setup.matchCount).appends i (.opFailure status) p f .opFail).leave =
      { s.failed i p status f 4 with
        list := s.listWith i p .opFail
        records := [s.blockRecord i p .opFail, s.failedRecord i p status (f.map Fin.val)] } := by
  simp only [State.appends, Effect.leave, State.counts, eventRecord_opFailure h.kind, h.withEvent_leave]
  rfl

/-- Another condition raised after OP_FAIL. -/
theorem State.FailsNext.withEvent_and_leave (h : s.FailsNext i p status) (c : Condition) :
    ((((s.readyAt i s.setup.matchCount).site i).withEvent (.opFailure status) p).withCondition c).leaveRound =
      s.failedSite i (4 ||| BitVec.twoPow 7 c.bit) := by
  rw [← State.failedSite_withCondition, ← h.withEvent_leave]
  rfl

theorem State.FailsNext.overfills_leave (h : s.FailsNext i p status) (f : Option (Fin 4)) :
    ((s.readyAt i s.setup.matchCount).overfills i (.opFailure status) p f).leave = s.failed i p status f 20 := by
  simp only [State.overfills, State.notes, Effect.leave, State.counts, eventRecord_opFailure h.kind,
    h.withEvent_and_leave]
  rfl

theorem State.FailsNext.notesStop_leave (h : s.FailsNext i p status) (f : Option (Fin 4)) :
    ((s.readyAt i s.setup.matchCount).notesStop i (.opFailure status) p f).leave = s.failed i p status f 68 := by
  simp only [State.notesStop, State.notes, Effect.leave, State.counts, eventRecord_opFailure h.kind,
    h.withEvent_and_leave]
  rfl

end

/-! ## The state after an operation failure -/

/-- An operation failure at a ready site is handled in full, with an action and its deciding filter (R157, R158). -/
abbrev State.handlesFailure (s : State) (i : SiteId) (p : Position) (status : Byte) (a : Action)
    (f : Option (Fin 4)) : Prop :=
  handleEvent i (.opFailure status) p false (s.readyAt i s.setup.matchCount) =
    handleFull i (.opFailure status) p a f (s.readyAt i s.setup.matchCount)

/-- A deciding filter whose action is not IGNORE has the operation failure handled in full (R157, R158). -/
theorem State.handlesFailure_of_filter {s : State} {i : SiteId} {p : Position} {f : Fin 4} {a : Action}
    (hfilter : decidingFilter s.filters i p.block p.page 0 = some f) (haction : (s.filters.get f).action = a)
    (h : a ≠ .ignore) (status : Byte) : s.handlesFailure i p status a (some f) :=
  handleEvent_full (by exact hfilter) (by exact haction) h

/-- The state after the handling of an operation failure and the end of the site's part. -/
def State.failureOver (s : State) (i : SiteId) (p : Position) (status : Byte) : State :=
  endPart i (handleEvent i (.opFailure status) p false (s.readyAt i s.setup.matchCount))

section
variable {s : State} {i : SiteId} {p : Position} {status : Byte}

theorem State.FailsNext.waits (h : s.FailsNext i p status) :
    ((s.readyAt i s.setup.matchCount).site i).state = .waiting :=
  (congrArg Site.state (Table.get_set_self _ _ _)).trans h.waiting.1

/-- What a handling of an operation failure that asks for no own pull shows of its effect. -/
theorem State.readyAt_handled (s : State) (i : SiteId) (count : Nat) {e : Effect} (hpulls : e.pulls = []) :
    let t := (s.readyAt i count).handled i e
    t.site i = e.site ∧ t.list i = e.list ∧ t.log = (offerAll e.records s).log ∧ t.tie = s.tie ∧
      t.runner = s.runner := by
  intro t
  refine ⟨State.handled_site _ _ _, State.handled_list _ _ _, offerAll_log_congr _ rfl rfl rfl, ?_,
    State.handled_runner _ _ _⟩
  simp [t, State.handled_eq, hpulls]
  rfl

/-- What a handling of an operation failure shows of its effect once the own pull that it asked for has brought a
stop. -/
theorem State.readyAt_haltingBy (s : State) (i : SiteId) (count : Nat) {e : Effect} (hpulls : e.pulls = [])
    (c : OwnCause) :
    let t := ((s.readyAt i count).handled i e).haltingBy c
    t.site i = e.site ∧ t.list i = e.list ∧ t.log = (offerAll e.records s).log ∧
      t.tie = { s.tie with ownPull := some c, stop := some c.toHalt, reported := true } ∧
      t.runner = { s.runner with state := .halting, haltCause := some c.toHalt } := by
  obtain ⟨hsite, hlist, hlog, htie, hrunner⟩ := s.readyAt_handled i count hpulls
  refine ⟨hsite, hlist, hlog, ?_, ?_⟩
  · rw [← htie]
    rfl
  · rw [← hrunner]
    rfl

/-- An ignored operation failure leaves nothing but the end of the site's part (R158). -/
theorem State.FailsNext.ignored (h : s.FailsNext i p status)
    (hignore : classify s (decidingFilter s.filters i p.block p.page 0) = .ignore) :
    s.failureOver i p status = s.partOver i s.setup.matchCount := by
  have ignored : handleEvent i (.opFailure status) p false (s.readyAt i s.setup.matchCount) =
      s.readyAt i s.setup.matchCount := handleEvent_ignored (by exact hignore) false
  rw [State.failureOver, ignored]
  exact endPart_readyAt_of_others h.waiting.1 h.settled.1 h.others _

/-- A logged operation failure at a listed block (R81). -/
theorem State.FailsNext.logged_listed (h : s.FailsNext i p status) {f : Option (Fin 4)}
    (hlog : s.handlesFailure i p status .log f)
    (hlisted : ∃ e ∈ s.list i, e.block = p.block) (hunmasked : s.unmasked .opFail) :
    s.failureOver i p status = (s.readyAt i s.setup.matchCount).handled i (s.failed i p status f 4) := by
  rw [← h.notes_leave]
  exact endPart_notes hlog (.inr hlisted) hunmasked h.settled.1 (State.readyAt_othersWait h.others _)

/-- A logged operation failure at an unlisted block below the limit (R98, R99). -/
theorem State.FailsNext.logged_appends (h : s.FailsNext i p status) {f : Option (Fin 4)}
    (hlog : s.handlesFailure i p status .log f)
    (hnew : ∀ e ∈ s.list i, e.block ≠ p.block) (hroom : (s.list i).length < s.setup.listLimit)
    (hunmasked : s.unmasked .opFail) :
    s.failureOver i p status = (s.readyAt i s.setup.matchCount).handled i
      { s.failed i p status f 4 with
        list := s.listWith i p .opFail
        records := [s.blockRecord i p .opFail, s.failedRecord i p status (f.map Fin.val)] } := by
  rw [← h.appends_leave]
  exact endPart_appends hlog (listingCause_opFailure h.kind status) hnew hroom hunmasked h.settled.1
    (State.readyAt_othersWait h.others _)

/-- A logged operation failure at an unlisted block, with the list at its limit (R98, R100). -/
theorem State.FailsNext.logged_atLimit (h : s.FailsNext i p status) {f : Option (Fin 4)}
    (hlog : s.handlesFailure i p status .log f)
    (hnew : ∀ e ∈ s.list i, e.block ≠ p.block) (hlimit : s.setup.listLimit ≤ (s.list i).length)
    (hunmasked : s.unmasked .opFail) (hstop : s.setup.mainframeStop.has .badLimit = false) :
    s.failureOver i p status = (s.readyAt i s.setup.matchCount).handled i
      (if s.setup.siteStop.has .badLimit then
        (s.failed i p status f 20).reject i .badLimit s.runner.stepIndex (some p.block) p.page
      else s.failed i p status f 20) := by
  have ends := endPart_overfills hlog (listingCause_opFailure h.kind status) hnew hlimit hunmasked hstop h.waits
    h.settled.1 (State.readyAt_othersWait h.others _)
  rw [apply_ite Effect.leave, Effect.leave_reject, h.overfills_leave] at ends
  exact ends

/-- A logged operation failure at a listed block with OP_FAIL in the mainframe-stop mask: after a rejection by the
site-stop mask STOP is pulled, and the runner takes it (R17, R82, R83). -/
theorem State.FailsNext.logged_stops (h : s.FailsNext i p status) {f : Option (Fin 4)}
    (hlog : s.handlesFailure i p status .log f) (hlisted : ∃ e ∈ s.list i, e.block = p.block)
    (hfree : s.runsFreely) (hfreeze : s.setup.freeze = false) (hstop : s.setup.mainframeStop.has .opFail = true) :
    s.failureOver i p status = ((s.readyAt i s.setup.matchCount).handled i
      (if s.setup.siteStop.has .opFail then
        (s.failed i p status f 4).reject i .opFail s.runner.stepIndex (some p.block) p.page
      else s.failed i p status f 4)).haltingBy .ownCondition := by
  rw [← h.notes_leave]
  exact endPart_notes_pulls hlog (.inr hlisted) hstop h.waits hfree hfreeze (State.readyAt_othersWait h.others _)

/-- A filter's REJECT_SITE at a listed block (R85). -/
theorem State.FailsNext.filter_rejects (h : s.FailsNext i p status) {f : Option (Fin 4)}
    (haction : s.handlesFailure i p status .rejectSite f) (hlisted : ∃ e ∈ s.list i, e.block = p.block)
    (hunmasked : s.unmasked .opFail) :
    s.failureOver i p status = (s.readyAt i s.setup.matchCount).handled i
      ((s.failed i p status f 68).reject i .filterStop s.runner.stepIndex (some p.block) p.page) := by
  rw [← h.notesStop_leave]
  exact endPart_notes_rejected haction (.inr hlisted) hunmasked h.waits h.settled.1
    (State.readyAt_othersWait h.others _)

/-- A filter's STOP_ALL at a listed block (R85). -/
theorem State.FailsNext.filter_stops (h : s.FailsNext i p status) {f : Option (Fin 4)}
    (haction : s.handlesFailure i p status .stopAll f) (hlisted : ∃ e ∈ s.list i, e.block = p.block)
    (hunmasked : s.unmasked .opFail) (hfree : s.runsFreely) (hfreeze : s.setup.freeze = false) :
    s.failureOver i p status =
      ((s.readyAt i s.setup.matchCount).handled i (s.failed i p status f 68)).haltingBy .ownFilter := by
  rw [← h.notesStop_leave]
  exact endPart_notes_stopped haction (.inr hlisted) hunmasked hfree hfreeze (State.readyAt_othersWait h.others _)

end

end Sys2Proof.Machine

open Sys2Proof Sys2Proof.Machine

/-- Settles O45: the frame of a handling at a site, then the effect of each way to list, to stop and to filter. -/
theorem opFailureIsHandled : Obligations.OpFailureIsHandled := by
  intro s i p status h record left rejected rejection halting listed
  have others : (s.readyAt i s.setup.matchCount).othersWait i := State.readyAt_othersWait h.others _
  obtain ⟨x, frame⟩ := endPart_frame ((ActsAt.refl i _).handleEvent (.opFailure status) p) others
  change s.failureOver i p status = _ at frame
  have shows {e : Effect} (hpulls : e.pulls = []) := s.readyAt_handled i s.setup.matchCount hpulls
  have halts {e : Effect} (hpulls : e.pulls = []) := s.readyAt_haltingBy i s.setup.matchCount hpulls
  refine ⟨s.failureOver i p status, h.exec_eq, ?_, ?_, ?_, fun j hj => ?_, fun hdefault hunmasked => ?_,
    fun hdefault hlisted hfree hfreeze hstop => ?_, fun hignored => ?_, fun f hfilter hlisted hunmasked => ?_⟩
  · rw [frame]
    rfl
  · rw [frame]
    exact Table.get_set_self _ _ _
  · rw [frame]
    exact Table.get_set_self _ _ _
  · rw [frame]
    exact ⟨(Table.get_set_ne _ _ hj.symm).trans (State.readyAt_site_ne hj _), Table.get_set_ne _ _ hj.symm,
      Table.get_set_ne _ _ hj.symm, Table.get_set_ne _ _ hj.symm⟩
  · have hlog : s.handlesFailure i p status .log none := handleEvent_byDefault (by exact hdefault) i _ p
    refine ⟨fun hlisted => ?_, fun hnew hroom => ?_, fun hnew hlimit hstop => ?_⟩
    · rw [h.logged_listed hlog hlisted hunmasked]
      exact shows rfl
    · rw [h.logged_appends hlog (by simpa [listed] using hnew) hroom hunmasked]
      obtain ⟨hsite, hlist, hlog, htie, hrunner⟩   := shows (e := { s.failed i p status none 4 with
        list := s.listWith i p .opFail
        records := [s.blockRecord i p .opFail, s.failedRecord i p status none] }) rfl
      exact ⟨hsite, htie, hrunner, hlist, hlog⟩
    · rw [h.logged_atLimit hlog (by simpa [listed] using hnew) hlimit hunmasked hstop]
      split
      · next hsite =>
        obtain ⟨site, list, log, tie, runner⟩ := shows
          (e := (s.failed i p status none 20).reject i .badLimit s.runner.stepIndex (some p.block) p.page) rfl
        exact ⟨list, tie, runner, fun hkept => by simp [hkept] at hsite, fun _ => ⟨site, log⟩⟩
      · next hsite =>
        obtain ⟨site, list, log, tie, runner⟩ := shows (e := s.failed i p status none 20) rfl
        exact ⟨list, tie, runner, fun _ => ⟨site, log⟩, fun hmasked => absurd hmasked hsite⟩
  · have hlog : s.handlesFailure i p status .log none := handleEvent_byDefault (by exact hdefault) i _ p
    rw [h.logged_stops hlog hlisted hfree hfreeze hstop]
    split
    · next hsite =>
      obtain ⟨site, list, _, tie, runner⟩ := halts
        (e := (s.failed i p status none 4).reject i .opFail s.runner.stepIndex (some p.block) p.page) rfl
        .ownCondition
      exact ⟨⟨tie, runner⟩, list, fun hkept => by simp [hkept] at hsite, fun _ => site⟩
    · next hsite =>
      obtain ⟨site, list, _, tie, runner⟩ := halts (e := s.failed i p status none 4) rfl .ownCondition
      exact ⟨⟨tie, runner⟩, list, fun _ => site, fun hmasked => absurd hmasked hsite⟩
  · have hignore : classify s (decidingFilter s.filters i p.block p.page 0) = .ignore := by
      rcases hignored with ⟨hdefault, hfilter⟩ | ⟨f, hfilter, haction⟩
      · simp [classify, hfilter, hdefault]
      · simp [classify, hfilter, haction]
    rw [h.ignored hignore]
    refine ⟨?_, rfl, rfl, rfl, rfl, rfl⟩
    rw [State.site, State.partOver, Table.get_set_self]
    simp [left]
  · refine ⟨?_, fun haction => ?_, fun haction => ?_, fun haction hfree hfreeze => ?_⟩
    · rw [frame]
      exact (Table.get_set_self _ _ _).trans (handleEvent_list_of_listed (s := s.readyAt i s.setup.matchCount) _ hlisted)
    · rw [h.logged_listed (State.handlesFailure_of_filter hfilter haction (by simp) status) hlisted hunmasked]
      obtain ⟨site, _, log, tie, runner⟩ := shows (e := s.failed i p status (some f) 4) rfl
      exact ⟨site, log, tie, runner⟩
    · rw [h.filter_rejects (State.handlesFailure_of_filter hfilter haction (by simp) status) hlisted hunmasked]
      obtain ⟨site, _, log, tie, runner⟩ := shows
        (e := (s.failed i p status (some f) 68).reject i .filterStop s.runner.stepIndex (some p.block) p.page) rfl
      exact ⟨site, tie, runner, log⟩
    · rw [h.filter_stops (State.handlesFailure_of_filter hfilter haction (by simp) status) hlisted hunmasked hfree hfreeze]
      obtain ⟨site, _, log, tie, runner⟩ := halts (e := s.failed i p status (some f) 68) rfl .ownFilter
      exact ⟨site, ⟨tie, runner⟩, log⟩
end

section
/-! PROOFS. The end of a data part: the page outcome, its totals and its handling. -/
namespace Sys2Proof.Machine

/-! ## The kinds of a page outcome (R67) -/

theorem le_largest_iff (sums : List Nat) (m : Nat) : largest sums ≤ m ↔ ∀ n ∈ sums, n ≤ m := by
  have bound (start : Nat) : sums.foldl max start ≤ m ↔ start ≤ m ∧ ∀ n ∈ sums, n ≤ m := by
    induction sums generalizing start with
    | nil => simp
    | cons n rest ih => simp [ih, and_assoc]
  simpa [largest] using bound 0

theorem overCount_eq_zero_iff (threshold : Nat) (sums : List Nat) :
    overCount threshold sums = 0 ↔ ∀ n ∈ sums, n ≤ threshold := by
  simp [overCount]

/-- A page of tallies 0 is CLEAN (R67). -/
theorem formOutcome_clean {sums : List Nat} (h : ∀ n ∈ sums, n = 0) (threshold : Nat) :
    (formOutcome threshold sums).kind = .clean := by
  have none : largest sums = 0 := Nat.le_zero.mp ((le_largest_iff sums 0).mpr fun n hn => (h n hn).le)
  simp [formOutcome, none]

theorem largest_ne_zero {sums : List Nat} (h : ∃ n ∈ sums, 0 < n) : largest sums ≠ 0 := by
  obtain ⟨n, hn, hpos⟩ := h
  have := (le_largest_iff sums _).mp le_rfl n hn
  omega

/-- A page with a tally above 0 is not CLEAN (R67). -/
theorem formOutcome_failing {sums : List Nat} (h : ∃ n ∈ sums, 0 < n) (threshold : Nat) :
    (formOutcome threshold sums).kind ≠ .clean := by
  rw [formOutcome, if_neg (by simpa using largest_ne_zero h)]
  split <;> simp

/-- A page with a tally above 0 and none above θ is DATA_FAIL (R67). -/
theorem formOutcome_dataFail {sums : List Nat} {threshold : Nat} (h : ∃ n ∈ sums, 0 < n)
    (hwithin : ∀ n ∈ sums, n ≤ threshold) : (formOutcome threshold sums).kind = .dataFail := by
  simp [formOutcome, largest_ne_zero h, (overCount_eq_zero_iff _ _).mpr hwithin]

/-- A page with a tally above θ is PAGE_FAIL (R67). -/
theorem formOutcome_pageFail {sums : List Nat} {threshold : Nat} (h : ∃ n ∈ sums, threshold < n) :
    (formOutcome threshold sums).kind = .pageFail := by
  obtain ⟨n, hn, hn'⟩ := h
  have above : overCount threshold sums ≠ 0 := fun none =>
    absurd ((overCount_eq_zero_iff _ _).mp none n hn) (by omega)
  simp [formOutcome, largest_ne_zero ⟨n, hn, by omega⟩, above]

/-! ## The outcome's event (R51, R70 to R72) -/

/-- The state in which a data part has ended, its outcome formed: the port idle, no tally and no stream (R51). -/
def State.pageTaken (i : SiteId) (s : State) : State :=
  { s with
    ports := s.ports.set i { current := none, queued := none }
    tallies := s.tallies.set i none
    streams := s.streams.set i none }

/-- The state in which the site's part has ended with nothing else (R51, R78). -/
def State.pageOver (i : SiteId) (s : State) : State :=
  { s.pageTaken i with sites := s.sites.set i { s.site i with state := .active, phase := none } }

section
variable {s : State} {i : SiteId} {p : Position} {page : Nat} {x : Tally}

/-- The port of a data part's end, with its tally and its stream gone. -/
theorem State.PageIsRead.taken (h : s.PageIsRead i p page x) :
    { setPort i (s.port i).ended s with tallies := s.tallies.set i none, streams := s.streams.set i none } =
      s.pageTaken i := by
  simp [setPort, Port.ended, State.port, h.port, State.pageTaken]

/-- The last byte of a live data part forms its outcome (R51). -/
theorem State.PageIsRead.exec_eq (h : s.PageIsRead i p page x) :
    ∃ r, r.trial = false ∧ exec (.dataPartEnd i) s = .next (outcomeFormed i r x p s) := by
  obtain ⟨r, pre, hround, hwork, htrial⟩ := h.round
  refine ⟨r, htrial, ?_⟩
  simp [exec, execDataPartEnd, dataEndEvent, Port.discards, Port.reports, State.port, h.port, Tx.report, h.tally.1,
    h.tally.2, hround, hwork, State.isWaiting, h.waiting]

/-- The site's part ends with nothing raised or recorded (R51, R78). -/
theorem State.PageIsRead.endPart_taken (h : s.PageIsRead i p page x) : endPart i (s.pageTaken i) = s.pageOver i := by
  rw [endPart_of_others (s := s.pageTaken i) h.settled h.others]
  exact congrArg (fun y => { s.pageTaken i with sites := s.sites.set i y }) (Site.leaveRound_of_waiting h.waiting)

/-- A CLEAN outcome ends the part (R51, R70). -/
theorem State.PageIsRead.exec_clean (h : s.PageIsRead i p page x)
    (hkind : (formOutcome s.setup.threshold x.sums).kind = .clean) :
    exec (.dataPartEnd i) s = .next (s.pageOver i) := by
  obtain ⟨r, _, formed⟩ := h.exec_eq
  rw [formed, ← h.endPart_taken, outcomeFormed, h.taken]
  simp only [hkind]

/-- Any other outcome is handled as an event, and then the part ends (R51, R70). -/
theorem State.PageIsRead.exec_failing (h : s.PageIsRead i p page x)
    (hkind : (formOutcome s.setup.threshold x.sums).kind ≠ .clean) : exec (.dataPartEnd i) s =
      .next (endPart i
        (handleEvent i (.outcome (formOutcome s.setup.threshold x.sums)) p false (s.pageTaken i))) := by
  obtain ⟨r, htrial, formed⟩ := h.exec_eq
  rw [formed, outcomeFormed, h.taken]
  cases hk : (formOutcome s.setup.threshold x.sums).kind with
  | clean => exact absurd hk hkind
  | dataFail => simp only [htrial]
  | pageFail => simp only [htrial]

/-! ## The effects of a failing outcome (R70 to R72, R97, R98) -/

/-- The record of a site whose part has ended with a failing outcome and some conditions raised. -/
def State.pageFailedSite (s : State) (i : SiteId) (p : Position) (page : Nat) (o : PageOutcome) (raised : CondSet) :
    Site :=
  { s.site i with
    state := .active, phase := none
    current := (s.site i).current ||| raised, accrued := (s.site i).accrued ||| raised
    failBits := min ((s.site i).failBits + o.total) 4294967295
    failedPages := min ((s.site i).failedPages + 1) 65535
    worst := max (s.site i).worst o.worstTally
    firstFail := some ((s.site i).firstFail.getD { block := p.block, page := page }) }

/-- The page-fail record of a failing outcome (R153). -/
def State.pageFailedRecord (s : State) (i : SiteId) (p : Position) (o : PageOutcome) (outcome : Condition) :
    RecordBody :=
  .pageFail
    { site := i, block := p.block, page := p.page, step := s.runner.stepIndex, source := .readData
      outcome := outcome, figures := some o, status := none, filter := none, trialCode := none }

theorem State.pageFailedSite_withCondition (s : State) (i : SiteId) (p : Position) (page : Nat) (o : PageOutcome)
    (raised : CondSet) (c : Condition) : (s.pageFailedSite i p page o raised).withCondition c =
      s.pageFailedSite i p page o (raised ||| BitVec.twoPow 7 c.bit) := by
  simp [State.pageFailedSite, Site.withCondition, CondSet.add, BitVec.or_assoc]

/-- A failing outcome raises its condition and adds the totals, and the site's part ends (R70 to R72). -/
theorem State.PageIsRead.withEvent_leave (h : s.PageIsRead i p page x) (o : PageOutcome) :
    ((s.site i).withEvent (.outcome o) p).leaveRound =
      s.pageFailedSite i p page o (BitVec.twoPow 7 (SiteEvent.outcome o).condition.bit) := by
  rw [Site.leaveRound_of_waiting (((s.site i).withEvent_state _ p).trans h.waiting)]
  cases hfirst : (s.site i).firstFail <;>
    simp [Site.withEvent, Site.addOutcome, Site.withCondition, CondSet.add, State.pageFailedSite, hfirst, h.kind.2]

/-- The effect of a failing outcome that lists nothing, with some conditions raised. -/
def State.pageFailed (s : State) (i : SiteId) (p : Position) (page : Nat) (o : PageOutcome) (outcome : Condition)
    (raised : CondSet) : Effect :=
  { site := s.pageFailedSite i p page o raised, list := s.list i
    records := [s.pageFailedRecord i p o outcome], pulls := [] }

/-- The state after the handling of a failing outcome and the end of the site's part. -/
def State.outcomeOver (s : State) (i : SiteId) (p : Position) (o : PageOutcome) : State :=
  endPart i (handleEvent i (.outcome o) p false (s.pageTaken i))

/-- A logged outcome that lists nothing, its condition in neither mask. -/
theorem State.PageIsRead.logged_notes (h : s.PageIsRead i p page x) {o : PageOutcome} {c : Condition}
    (hcondition : (SiteEvent.outcome o).condition = c) (hdefault : s.logsByDefault) (hunmasked : s.unmasked c)
    (hlist : listingCause (.outcome o) p.kind = none ∨ ∃ e ∈ s.list i, e.block = p.block) :
    s.outcomeOver i p o =
      (s.pageTaken i).handled i (s.pageFailed i p page o c (BitVec.twoPow 7 c.bit)) := by
  subst hcondition
  have effect : (s.notes i (.outcome o) p none).leave = s.pageFailed i p page o (SiteEvent.outcome o).condition
      (BitVec.twoPow 7 (SiteEvent.outcome o).condition.bit) := by
    simp only [State.notes, Effect.leave, State.counts, h.withEvent_leave]
    rfl
  rw [← effect]
  exact endPart_notes (handleEvent_byDefault (s := s.pageTaken i) hdefault _ _ _) hlist hunmasked h.settled h.others

/-- A logged outcome that lists the block, its condition in neither mask (R98, R99). -/
theorem State.PageIsRead.logged_appends (h : s.PageIsRead i p page x) {o : PageOutcome} {c : Condition}
    {cause : ListCause} (hcondition : (SiteEvent.outcome o).condition = c)
    (hcause : listingCause (.outcome o) p.kind = some cause) (hdefault : s.logsByDefault) (hunmasked : s.unmasked c)
    (hnew : ∀ e ∈ s.list i, e.block ≠ p.block) (hroom : (s.list i).length < s.setup.listLimit) :
    s.outcomeOver i p o = (s.pageTaken i).handled i
      { s.pageFailed i p page o c (BitVec.twoPow 7 c.bit) with
        list := s.listWith i p cause
        records := [s.blockRecord i p cause, s.pageFailedRecord i p o c] } := by
  subst hcondition
  have effect : (s.appends i (.outcome o) p none cause).leave =
      { s.pageFailed i p page o (SiteEvent.outcome o).condition
          (BitVec.twoPow 7 (SiteEvent.outcome o).condition.bit) with
        list := s.listWith i p cause
        records := [s.blockRecord i p cause, s.pageFailedRecord i p o (SiteEvent.outcome o).condition] } := by
    simp only [State.appends, Effect.leave, State.counts, h.withEvent_leave]
    rfl
  rw [← effect]
  exact endPart_appends (handleEvent_byDefault (s := s.pageTaken i) hdefault _ _ _) hcause hnew hroom hunmasked
    h.settled h.others

/-- A logged outcome that finds the list at its limit, its condition and BAD_LIMIT in neither mask (R98, R100). -/
theorem State.PageIsRead.logged_atLimit (h : s.PageIsRead i p page x) {o : PageOutcome} {c : Condition}
    {cause : ListCause} (hcondition : (SiteEvent.outcome o).condition = c)
    (hcause : listingCause (.outcome o) p.kind = some cause) (hdefault : s.logsByDefault) (hunmasked : s.unmasked c)
    (hkept : s.unmasked .badLimit) (hnew : ∀ e ∈ s.list i, e.block ≠ p.block)
    (hlimit : s.setup.listLimit ≤ (s.list i).length) :
    s.outcomeOver i p o = (s.pageTaken i).handled i
      (s.pageFailed i p page o c (BitVec.twoPow 7 c.bit ||| BitVec.twoPow 7 Condition.badLimit.bit)) := by
  subst hcondition
  have site : (((s.site i).withEvent (.outcome o) p).withCondition .badLimit).leaveRound =
      s.pageFailedSite i p page o
        (BitVec.twoPow 7 (SiteEvent.outcome o).condition.bit ||| BitVec.twoPow 7 Condition.badLimit.bit) := by
    rw [← State.pageFailedSite_withCondition, ← h.withEvent_leave]
    rfl
  have effect : (s.overfills i (.outcome o) p none).leave = s.pageFailed i p page o (SiteEvent.outcome o).condition
      (BitVec.twoPow 7 (SiteEvent.outcome o).condition.bit ||| BitVec.twoPow 7 Condition.badLimit.bit) := by
    simp only [State.overfills, State.notes, Effect.leave, site]
    rfl
  have ends := endPart_overfills (handleEvent_byDefault (s := s.pageTaken i) hdefault i (.outcome o) p) hcause hnew
    hlimit hunmasked hkept.2 h.waiting h.settled h.others
  rw [if_neg (by exact Bool.eq_false_iff.mp hkept.1)] at ends
  rw [← effect]
  exact ends

end

/-- What a handling of an outcome that asks for no own pull shows of its effect. -/
theorem State.pageTaken_handled (s : State) (i : SiteId) {e : Effect} (hpulls : e.pulls = []) :
    let t := (s.pageTaken i).handled i e
    t = { s.pageOver i with
      sites := t.sites, lists := t.lists, log := t.log, link := { s.link with causes := t.link.causes } } ∧
    (∀ j, j ≠ i → t.site j = s.site j ∧ t.list j = s.list j) ∧
    t.site i = e.site ∧ t.list i = e.list ∧ t.log = (offerAll e.records s).log := by
  intro t
  refine ⟨?_, fun j hj => ⟨State.handled_site_ne hj _ _, Table.get_set_ne _ _ hj.symm⟩, State.handled_site _ _ _,
    State.handled_list _ _ _, offerAll_log_congr _ rfl rfl rfl⟩
  simp only [t, State.handled_eq, hpulls]
  rfl

end Sys2Proof.Machine

open Sys2Proof Sys2Proof.Machine

/-- Settles O48: a CLEAN or ignored outcome ends the part; a failing one has the effect of its kind and of its listing
request. -/
theorem dataPartEndFormsOutcome : Obligations.DataPartEndFormsOutcome := by
  intro s i p page x h gone o left record
  have shows {e : Effect} (hpulls : e.pulls = []) := s.pageTaken_handled i hpulls
  refine ⟨fun hclean => h.exec_clean (formOutcome_clean hclean _), fun hoff hdefault => ?_, fun hdefault hsome => ?_⟩
  · by_cases hkind : o.kind = .clean
    · exact h.exec_clean hkind
    · have hignore : classify s (decidingFilter s.filters i p.block p.page (SiteEvent.outcome o).total) = .ignore := by
        simp [decidingFilter_none hoff, classify, hdefault]
      have ignored : handleEvent i (.outcome o) p false (s.pageTaken i) = s.pageTaken i :=
        handleEvent_ignored (by exact hignore) false
      rw [h.exec_failing hkind, ignored, h.endPart_taken]
      rfl
  · refine ⟨s.outcomeOver i p o, h.exec_failing (formOutcome_failing hsome _), fun hwithin hunmasked => ?_,
      fun habove hunmasked hkept => ?_⟩
    · have hkind : o.kind = .dataFail := formOutcome_dataFail hsome hwithin
      rw [h.logged_notes (by simp [SiteEvent.condition, hkind]) hdefault hunmasked
        (.inl (by simp [listingCause, hkind]))]
      obtain ⟨frame, others, site, _, log⟩ := shows (e := s.pageFailed i p page o .dataFail 1) rfl
      refine ⟨?_, fun j hj => (others j hj).1, hkind, site, log⟩
      have lists : ((s.pageTaken i).handled i (s.pageFailed i p page o .dataFail 1)).lists = s.lists :=
        Table.set_get_self _ _
      rw [lists] at frame
      exact frame
    · have hkind : o.kind = .pageFail := formOutcome_pageFail habove
      have hcondition : (SiteEvent.outcome o).condition = .pageFail := by simp [SiteEvent.condition, hkind]
      have hcause : listingCause (.outcome o) p.kind = some .pageFail := by simp [listingCause, hkind]
      have listed (hlisted) := h.logged_notes hcondition hdefault hunmasked (.inr hlisted)
      have appends := h.logged_appends hcondition hcause hdefault hunmasked
      have atLimit := h.logged_atLimit hcondition hcause hdefault hunmasked hkept
      have quiet : ∃ e : Effect, e.pulls = [] ∧ s.outcomeOver i p o = (s.pageTaken i).handled i e := by
        by_cases hlisted : ∃ e ∈ s.list i, e.block = p.block
        · exact ⟨_, rfl, listed hlisted⟩
        · have hnew : ∀ e ∈ s.list i, e.block ≠ p.block := by simpa using hlisted
          rcases Nat.lt_or_ge (s.list i).length s.setup.listLimit with hroom | hlimit
          · exact ⟨_, rfl, appends hnew hroom⟩
          · exact ⟨_, rfl, atLimit hnew hlimit⟩
      obtain ⟨e, hpulls, he⟩ := quiet
      refine ⟨?_, ?_, hkind, fun hlisted => ?_, fun hnew hroom => ?_, fun hnew hlimit => ?_⟩
      · rw [he]
        exact (shows hpulls).1
      · rw [he]
        exact (shows hpulls).2.1
      · rw [listed hlisted]
        exact (shows rfl).2.2
      · rw [appends hnew hroom]
        exact (shows rfl).2.2
      · rw [atLimit hnew hlimit]
        exact (shows rfl).2.2
end

section
/-! SUPPORT. The fields of a word that is joined from fields, and the words in which a table or a set of sites is
shown. -/
namespace Sys2Proof.Machine

/-! ## Fields of joined words -/

theorem bitsOf_eq_shiftRight (w : Word) (high low : Nat) :
    bitsOf w high low = (w.toNat >>> low) % 2 ^ (high - low + 1) := by
  rw [bitsOf, Nat.shiftRight_eq_div_pow]

/-- A field of two words joined is its bits in the one and in the other. -/
@[simp] theorem bitsOf_or (v w : Word) (high low : Nat) :
    bitsOf (v ||| w) high low = bitsOf v high low ||| bitsOf w high low := by
  simp only [bitsOf_eq_shiftRight, BitVec.toNat_or, Nat.shiftRight_or_distrib, Nat.or_mod_two_pow]

@[simp] theorem bitsOf_zero (high low : Nat) : bitsOf 0 high low = 0 := by simp [bitsOf]

/-- A field as a number: as much of it as there is room above its place. -/
theorem fld_toNat_of_le (n : Nat) {shift : Nat} (h : shift ≤ 16) :
    (fld n shift).toNat = 2 ^ shift * (n % 2 ^ (16 - shift)) := by
  have room : 65536 = 2 ^ shift * 2 ^ (16 - shift) := by
    rw [← pow_add, Nat.add_sub_cancel' h]
    norm_num
  rw [fld_toNat, room, Nat.mul_comm n, Nat.mul_mod_mul_left]

/-- A field reads back at its place. -/
theorem bitsOf_fld (n : Nat) {high low : Nat} (hlow : low ≤ high) (hhigh : high ≤ 15) :
    bitsOf (fld n low) high low = n % 2 ^ (high - low + 1) := by
  rw [bitsOf, fld_toNat_of_le n (by omega), Nat.mul_div_cancel_left _ (by positivity)]
  exact Nat.mod_mod_of_dvd n (pow_dvd_pow 2 (by omega))

/-- A field with room for its number reads back whole. -/
@[simp] theorem bitsOf_fld_self {n high low : Nat} (hlow : low ≤ high) (hhigh : high ≤ 15)
    (h : n < 2 ^ (high - low + 1)) : bitsOf (fld n low) high low = n := by
  rw [bitsOf_fld n hlow hhigh, Nat.mod_eq_of_lt h]

/-- Below its place a field has no bits. -/
@[simp] theorem bitsOf_fld_below (n : Nat) {shift high low : Nat} (h : high < shift) (hlow : low ≤ high)
    (hshift : shift ≤ 16) : bitsOf (fld n shift) high low = 0 := by
  have split : 2 ^ shift = 2 ^ low * 2 ^ (shift - low) := by rw [← pow_add, Nat.add_sub_cancel' (by omega)]
  rw [bitsOf, fld_toNat_of_le n hshift, split, Nat.mul_assoc, Nat.mul_div_cancel_left _ (by positivity)]
  exact Nat.mod_eq_zero_of_dvd (Dvd.dvd.mul_right (pow_dvd_pow 2 (by omega)) _)

/-- Above its room a field has no bits. -/
@[simp] theorem bitsOf_fld_above {n shift high low : Nat} (hlow : shift ≤ low) (h : n < 2 ^ (low - shift)) :
    bitsOf (fld n shift) high low = 0 := by
  have small : n * 2 ^ shift < 2 ^ low := by
    calc n * 2 ^ shift < 2 ^ (low - shift) * 2 ^ shift := Nat.mul_lt_mul_of_pos_right h (by positivity)
      _ = 2 ^ low := by rw [← pow_add, Nat.sub_add_cancel hlow]
  rw [bitsOf, fld_toNat, Nat.div_eq_of_lt ((Nat.mod_le _ _).trans_lt small), Nat.zero_mod]

/-- A number of its own is a field at place 0. -/
theorem toWord_eq_fld (n : Nat) : toWord n = fld n 0 := by simp [fld]

@[simp] theorem bitsOf_toWord (n : Nat) {high : Nat} (h : high ≤ 15) :
    bitsOf (toWord n) high 0 = n % 2 ^ (high + 1) := by
  rw [toWord_eq_fld, bitsOf_fld n (Nat.zero_le _) h, Nat.sub_zero]

@[simp] theorem bitsOf_toWord_above {n high low : Nat} (h : n < 2 ^ low) : bitsOf (toWord n) high low = 0 := by
  rw [toWord_eq_fld]
  exact bitsOf_fld_above (Nat.zero_le _) h

@[simp] theorem joined_nil : joined [] = 0 := rfl

@[simp] theorem joined_cons (w : Word) (ws : List Word) : joined (w :: ws) = w ||| joined ws := by
  have from_start (start : Word) : ws.foldl (· ||| ·) start = start ||| joined ws := by
    induction ws generalizing start with
    | nil => simp
    | cons v rest ih =>
      have step : joined (v :: rest) = v ||| joined rest := by simpa [joined] using ih v
      rw [List.foldl_cons, ih, step, BitVec.or_assoc]
  simpa [joined] using from_start w

/-- The bits of a constant word. -/
@[simp] theorem bitsOf_ofNat (m high low : Nat) :
    bitsOf (BitVec.ofNat 16 m) high low = m % 65536 / 2 ^ low % 2 ^ (high - low + 1) := by
  rw [bitsOf, BitVec.toNat_ofNat]

/-! ## Absent items -/

/-- A word under a mask has bits only where the mask has. -/
theorem bitsOf_and_mask (w : Word) {mask : Word} {high low : Nat} (h : bitsOf mask high low = 0) :
    bitsOf (w &&& mask) high low = 0 := by
  have both : bitsOf (w &&& mask) high low = bitsOf w high low &&& bitsOf mask high low := by
    simp only [bitsOf_eq_shiftRight, BitVec.toNat_and, Nat.shiftRight_and_distrib, Nat.and_mod_two_pow]
  rw [both, h, Nat.and_zero]

/-- The free bits of an absent item lie under its mask. -/
@[simp] theorem bitsOf_absentBits (s : State) (place : Nat) (present : Bool) {mask : Word} {high low : Nat}
    (h : bitsOf mask high low = 0) : bitsOf (absentBits s place present mask) high low = 0 := by
  cases present with
  | true => exact bitsOf_zero high low
  | false => exact bitsOf_and_mask _ h

@[simp] theorem absentBits_present (s : State) (place : Nat) (mask : Word) : absentBits s place true mask = 0 := rfl

@[simp] theorem codeOr_some (n : Nat) : codeOr (some n) = n := rfl

theorem codeOr_map_lt {α : Type} {f : α → Nat} {m : Nat} (h : ∀ a, f a < m) (hm : 0 < m) (x : Option α) :
    codeOr (x.map f) < m := by
  cases x with
  | none => exact hm
  | some a => exact h a

/-- Above the room of an item's codes there are no bits, whether the item is present or not. -/
@[simp] theorem bitsOf_codeOr_above {α : Type} {f : α → Nat} {shift high low : Nat} (hlow : shift ≤ low)
    (h : ∀ a, f a < 2 ^ (low - shift)) (x : Option α) : bitsOf (fld (codeOr (x.map f)) shift) high low = 0 :=
  bitsOf_fld_above hlow (codeOr_map_lt h (by positivity) x)

@[simp] theorem bitsOf_toWord_codeOr_above {α : Type} {f : α → Nat} {high low : Nat} (h : ∀ a, f a < 2 ^ low)
    (x : Option α) : bitsOf (toWord (codeOr (x.map f))) high low = 0 :=
  bitsOf_toWord_above (codeOr_map_lt h (by positivity) x)

/-! ## Flags and the codes of the named choices -/

/-- A field of one bit shows a flag. -/
theorem getLsbD_shows {w : Word} {k : Nat} {b : Bool} (h : bitsOf w k k = 1 ↔ b = true) : w.getLsbD k = b := by
  have field : w.getLsbD k = decide (bitsOf w k k = 1) := by simp [getLsbD_eq_decide, bitsOf]
  rw [field, Bool.decide_congr h, Bool.decide_eq_true]

@[simp] theorem bit_lt (b : Bool) {m : Nat} (h : 2 ≤ m) : bit b < m := by
  cases b <;> simp [bit] <;> omega

@[simp] theorem bit_le_one (b : Bool) : bit b ≤ 1 := by cases b <;> decide

@[simp] theorem bit_mod_two (b : Bool) : bit b % 2 = bit b := by cases b <;> rfl

@[simp] theorem bit_eq_zero (b : Bool) : bit b = 0 ↔ b = false := by cases b <;> decide

@[simp] theorem bit_eq_one (b : Bool) : bit b = 1 ↔ b = true := by cases b <;> decide

@[simp] theorem mod_lt_of_le (n : Nat) {k m : Nat} (hk : 0 < k) (h : k ≤ m) : n % k < m :=
  (Nat.mod_lt n hk).trans_le h

@[simp] theorem nibble_lt (x : BitVec 4) {m : Nat} (h : 16 ≤ m) : x.toNat < m := lt_of_lt_of_le x.isLt h

@[simp] theorem nibble_mod (x : BitVec 4) : x.toNat % 16 = x.toNat := Nat.mod_eq_of_lt x.isLt

@[simp] theorem RunState.code_lt (x : RunState) {m : Nat} (h : 8 ≤ m) : x.code < m :=
  lt_of_lt_of_le (by cases x <;> decide) h

@[simp] theorem HaltCause.code_lt (x : HaltCause) {m : Nat} (h : 8 ≤ m) : x.code < m :=
  lt_of_lt_of_le (by cases x <;> decide) h

@[simp] theorem CheckReason.code_lt (x : CheckReason) {m : Nat} (h : 8 ≤ m) : x.code < m :=
  lt_of_lt_of_le (by cases x <;> decide) h

theorem codeIn_runStates (x : RunState) :
    codeIn [RunState.idle, .atMark, .running, .paused, .logStall, .halting, .halted, .done] x = x.code := by
  cases x <;> rfl

theorem codeIn_checkReasons (x : CheckReason) :
    codeIn [CheckReason.badKind, .badRange, .badSpan, .spanOverlap, .bodyKind] x = x.code := by
  cases x <;> rfl

@[simp] theorem PageKind.code_lt (x : PageKind) {m : Nat} (h : 4 ≤ m) : x.code < m :=
  lt_of_lt_of_le (by cases x <;> decide) h

@[simp] theorem RoundWork.code_lt (x : RoundWork) {m : Nat} (h : 8 ≤ m) : x.code < m := by
  cases x with
  | page p _ => exact p.kind.code_lt (by omega)
  | poll _ _ _ _ => exact lt_of_lt_of_le (by decide : 3 < 8) h
  | setparam _ _ => exact lt_of_lt_of_le (by decide : 4 < 8) h

@[simp] theorem SearchPhase.code_lt (x : SearchPhase) {m : Nat} (h : 4 ≤ m) : x.code < m :=
  lt_of_lt_of_le (by cases x <;> decide) h

@[simp] theorem Scope.code_lt (x : Scope) {m : Nat} (h : 2 ≤ m) : x.code < m :=
  lt_of_lt_of_le (by cases x <;> decide) h

@[simp] theorem Verdict.code_lt (x : Verdict) {m : Nat} (h : 2 ≤ m) : x.code < m :=
  lt_of_lt_of_le (by cases x <;> decide) h

@[simp] theorem Enlistment.code_lt (x : Enlistment) {m : Nat} (h : 4 ≤ m) : x.code < m :=
  lt_of_lt_of_le (by cases x <;> decide) h

@[simp] theorem BarrierKind.code_lt (x : BarrierKind) {m : Nat} (h : 4 ≤ m) : x.code < m :=
  lt_of_lt_of_le (by cases x <;> decide) h

@[simp] theorem Parity.code_lt (x : Parity) {m : Nat} (h : 2 ≤ m) : x.code < m :=
  lt_of_lt_of_le (by cases x <;> decide) h

theorem codeIn_enlistments (x : Enlistment) : codeIn [Enlistment.notEnlisted, .enlisted, .leftOut] x = x.code := by
  cases x <;> rfl

theorem codeIn_barrierKinds (x : BarrierKind) : codeIn [BarrierKind.start, .rendezvous, .trial] x = x.code := by
  cases x <;> rfl

theorem codeIn_pageKinds (x : PageKind) : codeIn [PageKind.erase, .program, .read] x = x.code := by cases x <;> rfl

theorem codeIn_searchPhases (x : SearchPhase) : codeIn [SearchPhase.body, .vote, .final] x = x.code := by
  cases x <;> rfl

@[simp] theorem Scope.code_le_one (x : Scope) : x.code ≤ 1 := by cases x <;> decide

@[simp] theorem Parity.code_le_one (x : Parity) : x.code ≤ 1 := by cases x <;> decide

@[simp] theorem Parity.code_eq_one (x : Parity) : x.code = 1 ↔ x = .odd := by cases x <;> decide

@[simp] theorem Verdict.code_le_one (x : Verdict) : x.code ≤ 1 := by cases x <;> decide

@[simp] theorem Verdict.code_mod_two (x : Verdict) : x.code % 2 = x.code := by cases x <;> rfl

@[simp] theorem Scope.code_eq_one (x : Scope) : x.code = 1 ↔ x = .mainframe := by cases x <;> decide

@[simp] theorem Verdict.code_eq_one (x : Verdict) : x.code = 1 ↔ x = .fail := by cases x <;> decide

@[simp] theorem bitsOf_pack_high (high low : Nat) : bitsOf (pack high low) 15 8 = high % 256 :=
  (pack_bytesAre high low).1

@[simp] theorem bitsOf_pack_low (high low : Nat) : bitsOf (pack high low) 7 0 = low % 256 := (pack_bytesAre high low).2

@[simp] theorem LogMode.code_le_one (x : LogMode) : x.code ≤ 1 := by cases x <;> decide

@[simp] theorem LogPolicy.code_le_one (x : LogPolicy) : x.code ≤ 1 := by cases x <;> decide

@[simp] theorem LogMode.code_lt (x : LogMode) {m : Nat} (h : 2 ≤ m) : x.code < m := x.code_le_one.trans_lt h

@[simp] theorem LogPolicy.code_lt (x : LogPolicy) {m : Nat} (h : 2 ≤ m) : x.code < m := x.code_le_one.trans_lt h

@[simp] theorem LogMode.code_eq_one (x : LogMode) : x.code = 1 ↔ x = .split := by cases x <;> decide

@[simp] theorem LogPolicy.code_eq_one (x : LogPolicy) : x.code = 1 ↔ x = .stall := by cases x <;> decide

@[simp] theorem LogMode.code_mod_two (x : LogMode) : x.code % 2 = x.code := by cases x <;> rfl

@[simp] theorem SiteState.code_lt (x : SiteState) {m : Nat} (h : 4 ≤ m) : x.code < m :=
  lt_of_lt_of_le (by cases x <;> decide) h

@[simp] theorem phaseCode_lt (x : Option Phase) {m : Nat} (h : 4 ≤ m) : phaseCode x < m :=
  lt_of_lt_of_le (by rcases x with _ | _ | _ <;> decide) h

theorem codeIn_siteStates (x : SiteState) : codeIn [SiteState.off, .active, .waiting, .rejected] x = x.code := by
  cases x <;> rfl

theorem codeIn_phases (x : Option Phase) :
    codeIn [none, some Phase.awaitReady, some Phase.awaitData] x = phaseCode x := by
  rcases x with _ | _ | _ <;> rfl

@[simp] theorem Condition.bit_mod (c : Condition) : c.bit % 256 = c.bit := by cases c <;> rfl

@[simp] theorem CondSet.toNat_mod (x : CondSet) : x.toNat % 256 = x.toNat :=
  Nat.mod_eq_of_lt (lt_of_lt_of_le x.isLt (by norm_num))

@[simp] theorem Byte.toNat_mod (x : Byte) : x.toNat % 65536 = x.toNat :=
  Nat.mod_eq_of_lt (lt_of_lt_of_le x.isLt (by norm_num))

@[simp] theorem ListCause.code_le_one (x : ListCause) : x.code ≤ 1 := by cases x <;> decide

@[simp] theorem ListCause.code_lt (x : ListCause) {m : Nat} (h : 2 ≤ m) : x.code < m := x.code_le_one.trans_lt h

@[simp] theorem ListCause.code_eq_one (x : ListCause) : x.code = 1 ↔ x = .opFail := by cases x <;> decide

@[simp] theorem Action.code_lt (x : Action) {m : Nat} (h : 4 ≤ m) : x.code < m :=
  lt_of_lt_of_le (by cases x <;> decide) h

theorem codeIn_actions (x : Action) : codeIn [Action.ignore, .log, .rejectSite, .stopAll] x = x.code := by
  cases x <;> rfl

/-! ## A set of sites in two words -/

theorem toWord_getLsbD (n : Nat) {k : Nat} (hk : k < 16) : (toWord n).getLsbD k = n.testBit k := by
  rw [← BitVec.testBit_toNat, toWord_toNat, show 65536 = 2 ^ 16 by norm_num, Nat.testBit_mod_two_pow]
  simp [hk]

/-- A set of sites shows sites 16 to 31 in its high word and sites 0 to 15 in its low word (R172). -/
theorem SiteSet.has_eq (x : SiteSet) (i : SiteId) : x.has i =
    if i.val < 16 then (toWord x.toNat).getLsbD i.val else (highWord x.toNat).getLsbD (i.val - 16) := by
  have site := i.isLt
  split
  · next h => rw [toWord_getLsbD _ h, SiteSet.has, BitVec.testBit_toNat]
  · next h =>
    rw [highWord, toWord_getLsbD _ (by omega), SiteSet.has, show 65536 = 2 ^ 16 by norm_num, Nat.testBit_div_two_pow,
      Nat.sub_add_cancel (by omega), BitVec.testBit_toNat]

theorem highWord_toNat (n : Nat) : (highWord n).toNat = n / 65536 % 65536 := toWord_toNat _

/-! ## Entries of a table by their number -/

theorem Table.at_val {n : Nat} {α : Type} (t : Table (n + 1) α) (i : Fin (n + 1)) : Table.at t i.val = t.get i := by
  rw [Table.at]
  congr 1
  exact Fin.ext (Nat.mod_eq_of_lt i.isLt)

@[simp] theorem sites_at (s : State) (i : SiteId) : Table.at (n := 31) s.sites i.val = s.site i := Table.at_val _ i

@[simp] theorem lists_at (s : State) (i : SiteId) : Table.at (n := 31) s.lists i.val = s.list i := Table.at_val _ i

end Sys2Proof.Machine
end

section
/-! PROOFS. The layout of the areas that a READ returns (R172), and the READ itself (R164, R166). -/
namespace Sys2Proof.Machine

/-! ## STATUS -/

/-- STATUS words 0 to 4 show the runner (R172). -/
theorem State.showsRunner (s : State) : s.ShowsRunner := by
  refine ⟨?_, getLsbD_shows ?_, getLsbD_shows ?_, getLsbD_shows ?_, ?_, getLsbD_shows ?_, fun c hc => ?_,
    getLsbD_shows ?_, fun c hc => ⟨?_, ?_⟩, getLsbD_shows ?_, fun c hc => ⟨?_, ?_⟩⟩
  all_goals simp [areaWord, statusWord, runnerWord, codeIn_runStates, codeIn_haltCodes, codeIn_checkReasons,
    toWord_toNat, *]

/-- STATUS words 5 to 12 show the sweep position and the round record (R172). -/
theorem State.showsRound (s : State) : s.ShowsRound := by
  refine ⟨getLsbD_shows ?_, fun p hp => ⟨?_, ?_, fun page hpage => ?_⟩, getLsbD_shows ?_, fun r hr => ⟨fun i => ?_,
    fun p pre hwork => ⟨?_, ?_, fun page hpage => ?_⟩, fun mask expected count deadline hwork => ?_,
    fun address values hwork => ?_⟩⟩
  case refine_1 => simp [areaWord, statusWord, positionWord, -Option.map_bind]
  case refine_5 => simp [areaWord, statusWord, roundWord]
  case refine_6 => simpa [areaWord, statusWord, roundWord, hr] using SiteSet.has_eq r.participants i
  all_goals simp [areaWord, statusWord, positionWord, roundWord, codeIn_pageKinds, toWord_toNat, RoundWork.code,
    RoundWork.blockShown, RoundWork.pageShown, *]

/-- STATUS words 13 to 16 show the search context (R172). -/
theorem State.showsSearch (s : State) : s.ShowsSearch := by
  refine ⟨getLsbD_shows ?_, fun c hc => ⟨?_, ?_, getLsbD_shows ?_, ?_, fun hscope => ⟨?_, fun code hcode => ?_⟩,
    getLsbD_shows ?_, fun v hv => getLsbD_shows ?_, getLsbD_shows ?_, fun v hv => getLsbD_shows ?_⟩⟩
  all_goals simp [areaWord, statusWord, searchWord, codeIn_searchPhases, toWord_toNat, Search.valueShown,
    Search.codeShown, *]

/-- The five lines' bits of STATUS word 22, but for the other stations' levels (R172; log entry 40). -/
theorem linesWord_bits (a b c d e peer : Bool) (k : Fin 5) :
    let lines := [a, b, c, d, e]
    let w := flagBits 0 lines ||| flagBits 8 lines ||| fld (bit peer) 8
    w.getLsbD (4 - k.val) = lines[k.val] ∧ (lines[k.val] = true → w.getLsbD (12 - k.val) = true) ∧
      w.getLsbD 8 = (e || peer) := by
  revert a b c d e peer k
  decide

/-- STATUS word 22 shows the own drive in both fields, and STOP sensed low while it is pulled (R172; log entry 40). -/
theorem linesWord_shows (s : State) :
    (∀ (k : Nat) (pulled : Bool), (ownDrive s)[k]? = some pulled →
      (linesWord s).getLsbD (4 - k) = pulled ∧ (pulled = true → (linesWord s).getLsbD (12 - k) = true)) ∧
    (linesWord s).getLsbD 8 = (s.isEnlisted && s.tie.ownPull.isSome || s.tie.peerStop) := by
  have bits := linesWord_bits (s.isEnlisted && s.tie.markE) (s.isEnlisted && s.tie.markO)
    (s.isEnlisted && s.tie.vetoDrive .even) (s.isEnlisted && s.tie.vetoDrive .odd)
    (s.isEnlisted && s.tie.ownPull.isSome) s.tie.peerStop
  have split (j : Nat) : (linesWord s).getLsbD j =
      ((flagBits 0 (ownDrive s) ||| flagBits 8 (ownDrive s) ||| fld (bit s.tie.peerStop) 8).getLsbD j ||
        (Config.freeWord s.free (7 * 65536 + 22)).getLsbD j && (7680 : Word).getLsbD j) := by
    rw [linesWord, BitVec.getLsbD_or, BitVec.getLsbD_and]
  refine ⟨fun k pulled hk => ?_, ?_⟩
  · obtain ⟨hlt, rfl⟩ := List.getElem?_eq_some_iff.mp hk
    obtain ⟨own, sensed, _⟩ := bits ⟨k, hlt⟩
    have clear : (7680 : Word).getLsbD (4 - k) = false := by
      have all : ∀ j : Fin 5, (7680 : Word).getLsbD (4 - j.val) = false := by decide
      exact all ⟨k, hlt⟩
    refine ⟨?_, fun hpulled => ?_⟩
    · rw [split, clear, Bool.and_false, Bool.or_false]
      exact own
    · have low : (flagBits 0 (ownDrive s) ||| flagBits 8 (ownDrive s) |||
          fld (bit s.tie.peerStop) 8).getLsbD (12 - k) = true := sensed hpulled
      rw [split, low, Bool.true_or]
  · have clear : (7680 : Word).getLsbD 8 = false := by decide
    rw [split, clear, Bool.and_false, Bool.or_false]
    exact (bits 0).2.2

/-- STATUS words 17 to 22 show the Tie Port (R172). -/
theorem State.showsTie (s : State) : s.ShowsTie := by
  refine ⟨?_, ?_, getLsbD_shows ?_, ?_, getLsbD_shows ?_, fun x hx => ⟨?_, getLsbD_shows ?_⟩, getLsbD_shows ?_,
    fun v hv => getLsbD_shows ?_, getLsbD_shows ?_, fun v hv => getLsbD_shows ?_, getLsbD_shows ?_,
    fun v hv => getLsbD_shows ?_, getLsbD_shows ?_, fun c hc => ?_, getLsbD_shows ?_, fun c hc => ?_, fun x hx => ?_,
    fun k pulled hk => ?_, ?_⟩
  case refine_19 => exact (linesWord_shows s).1 k pulled hk
  case refine_20 =>
    rw [show (areaWord 7 s 22).getLsbD 8 = _ from (linesWord_shows s).2]
    simp
  all_goals simp [areaWord, statusWord, tieWord, codeIn_enlistments, codeIn_barrierKinds, codeIn_haltCodes,
    toWord_toNat, *]

/-- STATUS words 23 to 28 show the log and the attention causes (R172). -/
theorem State.showsLog (s : State) : s.ShowsLog := by
  have causes : s.link.causes.toNat < 32768 := lt_of_lt_of_le s.link.causes.isLt (by norm_num)
  refine ⟨getLsbD_shows ?_, getLsbD_shows ?_, getLsbD_shows ?_, ?_, ?_, fun hmode => ⟨?_, ?_⟩, fun hmode => ⟨?_, ?_⟩,
    fun k hk => ?_, getLsbD_shows ?_⟩
  case refine_10 =>
    have attn : (fld (bit s.attn) 15).getLsbD k = false :=
      getLsbD_shows (by simp [bitsOf_fld_below _ (show k < 15 by omega)])
    have word : areaWord 7 s 28 = toWord s.link.causes.toNat ||| fld (bit s.attn) 15 := rfl
    rw [word, BitVec.getLsbD_or, attn, Bool.or_false, toWord_getLsbD _ (by omega), BitVec.testBit_toNat]
  all_goals simp [areaWord, statusWord, logWord, toWord_toNat, *]

/-! ## SITE_RESULT -/

/-- The words of SITE_RESULT past the tenth of a site are 0 (R172). -/
theorem siteResultWord_of_le (s : State) {i : Nat} (h : 10 ≤ i % 16) : siteResultWord s i = 0 := by
  rw [siteResultWord]
  split
  case h_11 => rfl
  all_goals omega

/-- The 16 words of SITE_RESULT show the site's record (R172). -/
theorem State.showsSite (s : State) (i : SiteId) : s.ShowsSite i := by
  refine ⟨?_, ?_, ?_, getLsbD_shows ?_, getLsbD_shows ?_, getLsbD_shows ?_, getLsbD_shows ?_, ?_, ?_,
    fun r hr => ⟨?_, ?_⟩, fun f hf => ⟨?_, ?_⟩, ?_, ?_, ?_, ?_, fun v hv => ?_, fun k hk hk' => ?_⟩
  case refine_19 => exact siteResultWord_of_le s (i := 16 * i.val + k) (by omega)
  all_goals simp [areaWord, siteResultWord, Nat.mul_add_div, toWord_toNat, highWord_toNat, codeIn_siteStates,
    codeIn_phases, codeIn_conditionCodes, *]

/-! ## BADLIST, PLAN, SITE_CFG and FILTERS -/

/-- A position of a site's list, by its number in BADLIST. -/
theorem lists_at_entry (s : State) (i : SiteId) {j : Nat} (h : j < 64) :
    (Table.at (n := 31) s.lists ((64 * i.val + j) / 64))[(64 * i.val + j) % 64]? = (s.list i)[j]? := by
  rw [show (64 * i.val + j) / 64 = i.val by omega, show (64 * i.val + j) % 64 = j by omega, lists_at]

/-- The word of BADLIST at a position of a site's list that holds an entry. -/
theorem badList_entry_of_some (s : State) (i : SiteId) {j : Nat} {e : Entry} (h : j < 64)
    (he : (s.list i)[j]? = some e) : areaWord 5 s (64 * i.val + j) =
      joined [toWord (e.block % 4096), fld (bit e.found.isSome) 14, fld 1 15] := by
  have part : areaWord 5 s (64 * i.val + j) = entryWord s (64 * i.val + j) := if_pos (by omega)
  simp only [part, entryWord, lists_at_entry s i h, he]

/-- The word of BADLIST at an empty position of a site's list. -/
theorem badList_entry_of_none (s : State) (i : SiteId) {j : Nat} (h : j < 64) (he : (s.list i)[j]? = none) :
    areaWord 5 s (64 * i.val + j) = absentBits s (5 * 65536 + (64 * i.val + j)) false 20479 := by
  have part : areaWord 5 s (64 * i.val + j) = entryWord s (64 * i.val + j) := if_pos (by omega)
  simp only [part, entryWord, lists_at_entry s i h, he]

/-- The word of BADLIST that counts a site's list. -/
theorem badList_count (s : State) (i : SiteId) : areaWord 5 s (2048 + i.val) = toWord (s.list i).length := by
  show badListWord s (2048 + i.val) = _
  rw [badListWord, if_neg (by omega), if_pos (by omega), Nat.add_sub_cancel_left, countWord, lists_at]

/-- The detail part of BADLIST speaks of the same positions as the entry part. -/
theorem badList_detail (s : State) (i : SiteId) (j : Nat) :
    areaWord 5 s (2080 + 64 * i.val + j) = detailWord s (64 * i.val + j) := by
  show badListWord s (2080 + 64 * i.val + j) = _
  rw [badListWord, if_neg (by omega), if_neg (by omega), Nat.add_assoc, Nat.add_sub_cancel_left]

/-- The word of BADLIST for the detail of a FOUND entry. -/
theorem badList_detail_of_found (s : State) (i : SiteId) {j : Nat} {f : Found} (h : j < 64)
    (hf : ((s.list i)[j]?).bind Entry.found = some f) :
    areaWord 5 s (2080 + 64 * i.val + j) = fld f.cause.code 8 ||| toWord (f.step % 256) := by
  simp only [badList_detail, detailWord, lists_at_entry s i h, hf]

/-- Where there is no FOUND entry the detail is 0. -/
theorem badList_detail_of_none (s : State) (i : SiteId) {j : Nat} (h : j < 64)
    (hf : ((s.list i)[j]?).bind Entry.found = none) : areaWord 5 s (2080 + 64 * i.val + j) = 0 := by
  simp only [badList_detail, detailWord, lists_at_entry s i h, hf]

/-- The words of BADLIST show the site's list, its count and its details (R172). -/
theorem State.showsList (s : State) (i : SiteId) : s.ShowsList i := by
  refine ⟨?_, fun j hj => ⟨getLsbD_shows ?_, fun e he => ⟨?_, getLsbD_shows ?_⟩,
    fun e f he hf => ?_, badList_detail_of_none s i hj⟩⟩
  case refine_1 => rw [badList_count, toWord_toNat]
  case refine_2 =>
    cases he : (s.list i)[j]? with
    | none => simp [badList_entry_of_none s i hj he]
    | some e => simp [badList_entry_of_some s i hj he]
  case refine_5 =>
    have detail := badList_detail_of_found s i hj (f := f) (by simp [he, hf])
    exact ⟨by simp [detail], getLsbD_shows (by simp [detail])⟩
  all_goals simp [badList_entry_of_some s i hj he]

/-- The words of PLAN, SITE_CFG and FILTERS show their tables (R172). -/
theorem State.showsTables (s : State) : s.ShowsTables := by
  refine ⟨fun r k => ?_, fun i => ⟨?_, ?_⟩, fun f => ⟨getLsbD_shows ?_, ?_, fun i => ?_, ?_, ?_, ?_, ?_, ?_⟩⟩
  case refine_1 =>
    show planWord s (16 * r.val + k.val) = _
    rw [planWord, show (16 * r.val + k.val) / 16 = r.val by omega, show (16 * r.val + k.val) % 16 = k.val by omega,
      Table.at_val, Table.at_val]
  case refine_2 =>
    by_cases off : (s.site i).state = .off <;> simp [areaWord, siteCfgWord, toWord_toNat, Site.enabled, bit, off]
  case refine_3 => simp [areaWord, siteCfgWord, toWord_toNat, Nat.mul_add_div]
  case refine_6 =>
    simpa [areaWord, filterWord, filterWords, Nat.mul_add_div, Table.at_val]
      using SiteSet.has_eq (s.filters.get f).sites i
  all_goals simp [areaWord, filterWord, filterWords, Nat.mul_add_div, codeIn_actions, toWord_toNat, Table.at_val]
  all_goals omega

/-! ## READ -/

/-- A word is read back from its two bytes (section 10.2). -/
theorem wordOf_wordBytes (w : Word) : wordOf (toByte (hi w)) (loByte w) = w := by
  have word := w.isLt
  have high : (toByte (hi w)).toNat = w.toNat / 256 := Nat.mod_eq_of_lt (show w.toNat / 256 < 256 by omega)
  have low : (loByte w).toNat = w.toNat % 256 := BitVec.toNat_setWidth 8 w
  refine BitVec.eq_of_toNat_eq ?_
  rw [wordOf, BitVec.toNat_append, ← Nat.shiftLeft_add_eq_or_of_lt (loByte w).isLt, Nat.shiftLeft_eq, high, low]
  omega

/-- The command byte of a READ names its kind and its area (section 10.2). -/
theorem readCommand_fields (area : BitVec 4) :
    frameKind (toByte (2 * 16 + area.toNat)) = 2 ∧ frameArea (toByte (2 * 16 + area.toNat)) = area.toNat := by
  have room := area.isLt
  simp only [frameKind, frameArea, toByte, BitVec.toNat_ofNat]
  omega

/-- A READ's count byte says one less than its number of words (section 10.2). -/
theorem countByte_toNat {n : Nat} (h1 : 1 ≤ n) (h2 : n ≤ 256) : (toByte (n - 1)).toNat + 1 = n := by
  rw [toByte, BitVec.toNat_ofNat]
  omega

/-- The last byte of a READ frame completes it, and the READ is taken in the same step (R163, R164). -/
theorem exec_readLastByte {s : State} {area : BitVec 4} {index : Word} {n : Nat} (takes : s.linkTakes = true)
    (h1 : 1 ≤ n) (h2 : n ≤ 256) (frame : s.link.frame = (frameBytes 2 area.toNat index n []).take 3) :
    exec (.byteTaken (toByte (n - 1))) s = .next (readRequest area.toNat index n s) := by
  obtain ⟨kind, named⟩ := readCommand_fields area
  refine congrArg Host.Outcome.next ?_
  have bytes : s.link.frame ++ [toByte (n - 1)] =
      [toByte (2 * 16 + area.toNat), toByte (hi index), loByte index, toByte (n - 1)] := by rw [frame]; rfl
  have length : frameLength (toByte (2 * 16 + area.toNat)) (toByte (n - 1)) = 4 := by simp only [frameLength, kind]
  show byteEvent (toByte (n - 1)) s = _
  simp [byteEvent, takes, bytes, assemble, length, frameRequest, kind, named, wordOf_wordBytes, countByte_toNat h1 h2]

/-- A word travels as its high byte and its low byte (section 10.2). -/
theorem wordBytes_eq (w : Word) : wordBytes w = [toByte (w.toNat / 256), toByte (w.toNat % 256)] := by
  have low : loByte w = toByte (w.toNat % 256) := by
    simp [loByte, toByte, BitVec.toNat_eq]
  rw [wordBytes, hi, low]

theorem readRequest_noArea {area : Nat} (h : areaSize area = none) (index : Word) (n : Nat) (s : State) :
    readRequest area index n s = answer .badRequest [] s := by
  rw [readRequest, h]

theorem readRequest_badIndex {area size n : Nat} {index : Word} (h : areaSize area = some size)
    (past : size < index.toNat + n) (s : State) : readRequest area index n s = answer .badIndex [] s := by
  simp only [readRequest, h, if_pos past]

theorem readRequest_words {area size n : Nat} {index : Word} (h : areaSize area = some size)
    (inside : index.toNat + n ≤ size) (s : State) : readRequest area index n s =
      { answer .ok (wordsBytes (readWords area s index.toNat n)) s with free := s.free + 1 } := by
  simp only [readRequest, h, if_neg (Nat.not_lt.mpr inside)]

end Sys2Proof.Machine

open Sys2Proof Sys2Proof.Machine

/-- Settles O40: the frame's last byte is the READ request, and each area's words show their part of the state. -/
theorem readReturnsTheWords : Obligations.ReadReturnsTheWords := by
  refine ⟨fun s a index n takes h1 h2 frame => ?_, fun s => ⟨s.showsRunner, s.showsRound, s.showsSearch, s.showsTie,
    s.showsLog, s.showsTables, fun i => ⟨s.showsSite i, s.showsList i⟩⟩⟩
  rw [exec_readLastByte takes h1 h2 frame]
  refine ⟨fun noArea => ?_, fun size area past => ?_, fun size area inside => ?_⟩
  · rw [readRequest_noArea noArea]
  · rw [readRequest_badIndex area past]
  · rw [readRequest_words area inside, wordsBytes, funext wordBytes_eq]
    rfl
end

section
/-! SUPPORT. What the runner's work, the stops and the requests leave alone in the Site Table: every operation that
changes no site record, as an equation of the tables before and after. -/
namespace Sys2Proof.Machine

/-! ## The log, stops and own pulls -/

@[simp] theorem freezeNotice_sites (s : State) : (freezeNotice s).sites = s.sites := by rw [freezeNotice_eq]

@[simp] theorem requestPull_sites (c : OwnCause) (s : State) : (requestPull c s).sites = s.sites := by
  rw [requestPull_eq]

@[simp] theorem runnerStop_sites (cause : HaltCause) (s : State) : (runnerStop cause s).sites = s.sites := by
  obtain ⟨_, _, _, _, _, stopped⟩ := runnerStop_frame cause s
  rw [stopped]

@[simp] theorem takeStop_sites (s : State) : (takeStop s).sites = s.sites := by
  rcases takeStop_cases s with ⟨_, kept⟩ | ⟨_, _, _, taken⟩
  · rw [kept]
  · rw [taken, runnerStop_sites]

/-! ## The end of steps, rounds and searches (R13, R29, R56, R119) -/

@[simp] theorem goTo_sites (index : Nat) (s : State) : (goTo index s).sites = s.sites := by
  rcases goTo_cases index s with ⟨_, h⟩ | ⟨_, h⟩
  · rw [h]
  · rw [h, enterDone_sites]

@[simp] theorem completeStep_sites (s : State) : (completeStep s).sites = s.sites := goTo_sites _ s

@[simp] theorem workDone_sites (s : State) : (workDone s).sites = s.sites := by
  unfold workDone
  split
  · split
    · split <;> rfl
    · exact completeStep_sites s
  · exact completeStep_sites s

@[simp] theorem completeSearch_sites (s : State) : (completeSearch s).sites = s.sites := by
  unfold completeSearch
  split
  · exact goTo_sites _ _
  · rfl

@[simp] theorem sweepRoundEnded_sites (s : State) : (sweepRoundEnded s).sites = s.sites := by
  unfold sweepRoundEnded
  split
  · split
    · rfl
    · exact workDone_sites _
  · exact workDone_sites s

@[simp] theorem afterRound_sites (a : Ask) (s : State) : (afterRound a s).sites = s.sites := by
  cases a with
  | sweep => exact sweepRoundEnded_sites s
  | poll => exact workDone_sites s
  | trim => exact workDone_sites s
  | trialCode => rfl
  | finalTrim => exact completeSearch_sites s

@[simp] theorem endRound_sites (s : State) : (endRound s).sites = s.sites := by
  rcases endRound_cases s with ⟨_, h⟩ | ⟨_, a, _, h⟩ | ⟨_, _, h⟩
  · rw [h, enterHalted_sites]
  · rw [h, afterRound_sites]
  · rw [h]

@[simp] theorem endRoundIfDone_sites (s : State) : (endRoundIfDone s).sites = s.sites := by
  rcases endRoundIfDone_cases s with ⟨_, _, h⟩ | ⟨_, h⟩
  · rw [h, endRound_sites]
  · rw [h]

@[simp] theorem afterResults_sites (c : Search) (s : State) : (afterResults c s).sites = s.sites := by
  rcases afterResults_cases c s with ⟨_, _, h⟩ | ⟨_, _, h⟩ | ⟨_, _, h⟩
  · rw [h, enterHalted_sites]
  · rw [h]
  · rw [h, completeSearch_sites]

@[simp] theorem handOutOn_sites (c : Search) (s : State) : (handOutOn c s).sites = s.sites := by
  rcases handOutOn_cases c s with ⟨_, h⟩ | ⟨_, h⟩
  · rw [h, afterResults_sites]
  · rw [h]

/-! ## Trials and barriers (R16, R112 to R116, R131 to R133) -/

@[simp] theorem finishTrials_sites (c : Search) (s : State) : (finishTrials c s).sites = s.sites := handOutOn_sites _ _

@[simp] theorem decideNext_sites (c : Search) (s : State) : (decideNext c s).sites = s.sites := by
  unfold decideNext
  split
  · rfl
  · split
    · split
      · split
        · exact finishTrials_sites c s
        · rfl
      · split
        · rfl
        · exact finishTrials_sites c s
    · exact finishTrials_sites c s

@[simp] theorem closeSiteTrial_sites (c : Search) (s : State) : (closeSiteTrial c s).sites = s.sites := by
  rw [closeSiteTrial, decideNext_sites, foldl_offerTrialResult_frame]

@[simp] theorem trialPassed_sites (combined : Verdict) (barrier : Nat) (s : State) :
    (trialPassed combined barrier s).sites = s.sites := by
  unfold trialPassed
  split
  · simp
  · rfl

@[simp] theorem afterBarrier_sites (kind : BarrierKind) (sampled : Verdict) (barrier : Nat) (s : State) :
    (afterBarrier kind sampled barrier s).sites = s.sites := by
  cases kind with
  | start => rfl
  | rendezvous => exact workDone_sites s
  | trial => exact trialPassed_sites sampled barrier s

@[simp] theorem passBarrier_sites (w : Wait) (sampled : Verdict) (waited : Nat) (s : State) :
    (passBarrier w sampled waited s).sites = s.sites := by
  rw [passBarrier_eq, afterBarrier_sites, State.passed_eq]

@[simp] theorem arrive_sites (kind : BarrierKind) (vote : Option Verdict) (s : State) :
    (arrive kind vote s).sites = s.sites := by
  rcases arrive_cases kind vote s with ⟨_, h⟩ | ⟨_, h⟩
  · rw [h]
  · rw [h, passBarrier_sites]

@[simp] theorem closeTrial_sites (s : State) : (closeTrial s).sites = s.sites := by
  unfold closeTrial
  split
  · rfl
  · split
    · split
      · exact closeSiteTrial_sites _ s
      · exact arrive_sites _ _ _
    · rfl

/-! ## Steps and boundaries (R11, R13, R15) -/

@[simp] theorem repeatWork_sites (span count : Nat) (s : State) : (repeatWork span count s).sites = s.sites := by
  unfold repeatWork
  dsimp only
  split
  · exact completeStep_sites _
  · rfl

@[simp] theorem stepWork_sites (s : State) : (stepWork s).sites = s.sites := by
  unfold stepWork
  split
  · next step _ =>
    cases step.body with
    | endStep => exact enterDone_sites _ s
    | sweep f => rfl
    | poll mask expected count deadline => rfl
    | trim address source => rfl
    | search f => rfl
    | rendezvous => exact arrive_sites _ _ s
    | repeatStep span count => exact repeatWork_sites _ _ s
    | marker => exact (workDone_sites _).trans (offer_sites _ s)
  · rfl

@[simp] theorem boundary_sites (s : State) : (boundary s).sites = s.sites := by
  rcases boundary_cases s with ⟨_, h⟩ | ⟨_, _, h⟩ | ⟨_, _, _, _, h⟩ | ⟨_, _, _, h⟩
  · rw [h]; rfl
  · rw [h]; rfl
  · rw [h, enterHalted_sites]
  · rw [h]; rfl

/-! ## Events of the ports, the bus and the link -/

@[simp] theorem endDiscarded_sites (i : SiteId) (s : State) : (endDiscarded i s).sites = s.sites := by
  rw [endDiscarded_eq]

@[simp] theorem discardedEnd_sites (i : SiteId) (s : State) : (discardedEnd i s).sites = s.sites := by
  unfold discardedEnd
  split
  · exact endDiscarded_sites i s
  · rfl

@[simp] theorem pollExpiry_sites (i : SiteId) (s : State) : (pollExpiry i s).sites = s.sites := by
  unfold pollExpiry
  split
  · dsimp only
    split <;> rfl
  · rfl

@[simp] theorem readByteEvent_sites (i : SiteId) (byte : Byte) (s : State) :
    (readByteEvent i byte s).sites = s.sites := by
  unfold readByteEvent
  split
  · split <;> rfl
  · rfl

@[simp] theorem barrierEvent_sites (peerVeto : Bool) (s : State) : (barrierEvent peerVeto s).sites = s.sites := by
  unfold barrierEvent
  split
  · split
    · exact passBarrier_sites _ _ _ s
    · rfl
  · rfl

@[simp] theorem timeoutEvent_sites (s : State) : (timeoutEvent s).sites = s.sites := by
  unfold timeoutEvent
  split
  · rw [takeStop_sites, requestPull_sites]
  · rfl

@[simp] theorem stopFallEvent_sites (s : State) : (stopFallEvent s).sites = s.sites := by
  unfold stopFallEvent
  split
  · rfl
  · exact takeStop_sites _

@[simp] theorem stopRiseEvent_sites (s : State) : (stopRiseEvent s).sites = s.sites := by
  unfold stopRiseEvent
  split <;> rfl

@[simp] theorem tick_sites (s : State) : (tick s).sites = s.sites := by
  rw [tick_frame]

@[simp] theorem intervalEvent_sites (ticks : Nat) (s : State) : (intervalEvent ticks s).sites = s.sites := by
  unfold intervalEvent
  split
  · split <;> rfl
  · rfl

@[simp] theorem idleEvent_sites (s : State) : (idleEvent s).sites = s.sites := by
  unfold idleEvent
  split <;> rfl

@[simp] theorem settlingEndEvent_sites (s : State) : (settlingEndEvent s).sites = s.sites := by
  unfold settlingEndEvent
  split <;> rfl

@[simp] theorem settlingEdgeEvent_sites (s : State) : (settlingEdgeEvent s).sites = s.sites := by
  unfold settlingEdgeEvent
  split <;> rfl

@[simp] theorem breakEvent_sites (s : State) : (breakEvent s).sites = s.sites := by
  unfold breakEvent
  split <;> rfl

@[simp] theorem framingErrorEvent_sites (s : State) : (framingErrorEvent s).sites = s.sites := by
  unfold framingErrorEvent
  split <;> rfl

/-! ## Requests of the link (R19 to R21, R23, R128, R150, R164 to R171) -/

@[simp] theorem pauseRequest_sites (s : State) : (pauseRequest s).sites = s.sites := by
  unfold pauseRequest
  split <;> rfl

@[simp] theorem stepRequest_sites (s : State) : (stepRequest s).sites = s.sites := by
  unfold stepRequest
  split <;> rfl

@[simp] theorem resumeRequest_sites (s : State) : (resumeRequest s).sites = s.sites := by
  unfold resumeRequest
  split <;> rfl

@[simp] theorem stopAllRequest_sites (s : State) : (stopAllRequest s).sites = s.sites := by
  rw [stopAllRequest, takeStop_sites, requestPull_sites, answer_sites]

@[simp] theorem setupWriteRequest_sites (index : Word) (words : List Word) (s : State) :
    (setupWriteRequest index words s).sites = s.sites := by
  have stored : (applySetup index.toNat words s).sites = s.sites := by
    unfold applySetup
    dsimp only
    split <;> rfl
  unfold setupWriteRequest
  split
  · rfl
  · split
    · rfl
    · exact stored

@[simp] theorem preloadRequest_sites (i : SiteId) (position : Nat) (words : List Word) (s : State) :
    (preloadRequest i position words s).sites = s.sites := by
  unfold preloadRequest
  repeat' split
  all_goals rfl

@[simp] theorem truncationRequest_sites (i : SiteId) (words : List Word) (s : State) :
    (truncationRequest i words s).sites = s.sites := by
  unfold truncationRequest
  repeat' split
  all_goals rfl

@[simp] theorem badListWriteRequest_sites (index : Nat) (words : List Word) (s : State) :
    (badListWriteRequest index words s).sites = s.sites := by
  unfold badListWriteRequest
  split
  · exact preloadRequest_sites _ _ words s
  · split
    · exact truncationRequest_sites _ words s
    · split <;> rfl

@[simp] theorem planWriteRequest_sites (index : Nat) (words : List Word) (s : State) :
    (planWriteRequest index words s).sites = s.sites := by
  unfold planWriteRequest
  split
  · rfl
  · split <;> rfl

@[simp] theorem filtersWriteRequest_sites (index : Nat) (words : List Word) (s : State) :
    (filtersWriteRequest index words s).sites = s.sites := by
  unfold filtersWriteRequest
  split
  · rfl
  · split <;> rfl

@[simp] theorem readRequest_sites (area : Nat) (index : Word) (n : Nat) (s : State) :
    (readRequest area index n s).sites = s.sites := by
  unfold readRequest
  split
  · rfl
  · split <;> rfl

@[simp] theorem reportHeadroom_sites (s : State) : (reportHeadroom s).sites = s.sites := by
  unfold reportHeadroom
  split <;> rfl

@[simp] theorem drainRequest_sites (ring : Word) (count : Nat) (s : State) :
    (drainRequest ring count s).sites = s.sites := by
  unfold drainRequest
  split
  · exact reportHeadroom_sites _
  · split
    · rfl
    · exact reportHeadroom_sites _
  · rfl

@[simp] theorem enlistRequest_sites (value : Word) (s : State) : (enlistRequest value s).sites = s.sites := by
  unfold enlistRequest
  repeat' split
  all_goals rfl

end Sys2Proof.Machine
end

section
/-! SUPPORT. A step as its command, its piece of work or its µs: what each of them keeps, every step keeps. -/
namespace Sys2Proof.Machine

/-- What the queue has no part in, and every command, every piece of work and every µs keeps, every step keeps (log
entries 1 and 39). -/
theorem step_induction {P : State → Prop} (queue : ∀ s rest, P s → P { s with pending := rest })
    (command : ∀ c s t, P s → exec c s = .next t → P t) (piece : ∀ s, P s → P (advance s))
    (microsecond : ∀ s, P s → P (tick s)) {s t : State} (h : P s) (hstep : step s = .next t) : P t := by
  unfold step at hstep
  split at hstep
  · have idles : idle s = t := by injection hstep
    rcases idle_cases s with ⟨_, works⟩ | ⟨_, ticks⟩
    · rw [← idles, works]
      exact piece s h
    · rw [← idles, ticks]
      exact microsecond s h
  · exact command _ _ t (queue s _ h) hstep

/-- A command that always acts answers the state that its effect gives. -/
theorem keeps_of_next {P : State → Prop} {t u : State}
    (answered : (Host.Outcome.next u : Result) = .next t) (h : P u) : P t := by
  injection answered with e
  exact e ▸ h

/-- A command of a frame's words answers only for a frame that the link can carry (log entry 26). -/
theorem keeps_of_wellFormed {P : State → Prop} {b : Bool} {f : Fault} {t u : State}
    (answered : (if b then .next u else .fault f : Result) = .next t) (h : P u) : P t := by
  split at answered
  · exact keeps_of_next answered h
  · nomatch answered

/-- What a taken request keeps, a request keeps: one that is lost changes nothing (R163). -/
theorem onRequest_keeps {P : State → Prop} {op : State → State} {s : State} (h : P s) (hop : ∀ s, P s → P (op s)) :
    P (onRequest op s) := by
  rcases onRequest_cases op s with ⟨_, taken⟩ | ⟨_, lost⟩
  · rw [taken]
    exact hop s h
  · rw [lost]
    exact h

end Sys2Proof.Machine
end

section
/-! PROOFS. Sound site records: each change of a record keeps it sound, so does each operation of the Site Table, and so
does every step. -/
namespace Sys2Proof.Machine

/-! ## One record (R71, R75, R79) -/

section
variable {x : Site}

/-- A condition raised enters both sets (R79). -/
theorem Site.Sound.withCondition (h : x.Sound) (c : Condition) : (x.withCondition c).Sound where
  sets := by
    refine BitVec.eq_of_getLsbD_eq fun k _ => ?_
    have held : (x.current &&& x.accrued).getLsbD k = x.current.getLsbD k := by rw [h.sets]
    simp only [Site.withCondition, CondSet.add, BitVec.getLsbD_and, BitVec.getLsbD_or] at held ⊢
    rw [← Bool.or_and_distrib_right, held]
  reject := h.reject
  failBits := h.failBits
  failedPages := h.failedPages

/-- The totals stop at their largest values (R71). -/
theorem Site.Sound.addOutcome (h : x.Sound) (o : PageOutcome) (block page : Nat) :
    (x.addOutcome o block page).Sound :=
  ⟨h.sets, h.reject, Nat.min_le_right _ _, Nat.min_le_right _ _⟩

/-- A rejected site has its reject fields (R82). -/
theorem Site.Sound.rejected (h : x.Sound) (r : Reject) :
    ({ x with state := .rejected, reject := some r } : Site).Sound :=
  ⟨h.sets, by simp, h.failBits, h.failedPages⟩

/-- A site in any state but REJECTED has no reject fields (R75). -/
theorem Site.Sound.notRejected_iff (h : x.Sound) : x.state ≠ .rejected ↔ x.reject = none := by
  rw [ne_eq, h.reject]
  simp

/-- A participant was ACTIVE (R42, R43). -/
theorem Site.Sound.enterRound (h : x.Sound) (active : x.state = .active) : x.enterRound.Sound :=
  ⟨h.sets, by simp [Site.enterRound, h.notRejected_iff.mp (by simp [active])], h.failBits, h.failedPages⟩

/-- Of the site states, WAITING alone is changed when a site leaves a round (R78). -/
theorem Site.leaveRound_rejected_iff (x : Site) : x.leaveRound.state = .rejected ↔ x.state = .rejected := by
  cases hs : x.state <;> simp [Site.leaveRound, hs]

theorem Site.Sound.leaveRound (h : x.Sound) : x.leaveRound.Sound :=
  ⟨h.sets, (Site.leaveRound_rejected_iff x).trans h.reject, h.failBits, h.failedPages⟩

/-- ABORT is the site's leaving of the round, with its flag cleared (R58, R87). -/
theorem Site.Sound.abort (h : x.Sound) : x.abort.Sound :=
  ⟨h.sets, (Site.leaveRound_rejected_iff x).trans h.reject, h.failBits, h.failedPages⟩

/-- CLEAR_RESULTS leaves no site REJECTED, and no reject fields (R92). -/
theorem Site.clearResults_sound (x : Site) : x.clearResults.Sound := by
  refine ⟨BitVec.zero_and, ?_, Nat.zero_le _, Nat.zero_le _⟩
  cases hs : x.state <;> simp [Site.clearResults, hs]

/-- An enable takes a REJECTED site's reject fields with it (R89). -/
theorem Site.Sound.enable (h : x.Sound) : x.enable.Sound := by
  unfold Site.enable
  split
  · next off => exact ⟨h.sets, by simp [h.notRejected_iff.mp (by simp [off])], h.failBits, h.failedPages⟩
  · exact ⟨h.sets, by simp, h.failBits, h.failedPages⟩
  · exact h
  · exact h

/-- A disabled site is OFF, with no reject fields (R90). -/
theorem Site.Sound.disable (h : x.Sound) : x.disable.Sound := by
  by_cases off : x.state = .off
  · simpa [Site.disable, off] using h
  · rw [Site.disable_of_enabled off]
    exact ⟨h.sets, by simp, h.failBits, h.failedPages⟩

end

/-! ## The Site Table's operations -/

section
variable {s : State}

/-- Soundness of the site records looks at the Site Table only. -/
theorem State.SitesSound.congr {t : State} (h : s.SitesSound) (e : t.sites = s.sites) : t.SitesSound := by
  intro i
  rw [State.site, e]
  exact h i

theorem modifySite_sitesSound (h : s.SitesSound) (i : SiteId) {f : Site → Site} (hf : ∀ x, x.Sound → (f x).Sound) :
    (modifySite i f s).SitesSound := by
  intro j
  by_cases hj : j = i
  · rw [hj, modifySite_site_self]
    exact hf _ (h i)
  · rw [modifySite_site_ne hj]
    exact h j

theorem mapSites_sitesSound (h : s.SitesSound) {f : Site → Site} (hf : ∀ x, x.Sound → (f x).Sound) :
    ({ s with sites := s.sites.map f } : State).SitesSound := by
  intro i
  rw [State.site, Table.get_map]
  exact hf _ (h i)

theorem clearCurrent_sitesSound (h : s.SitesSound) : (clearCurrent s).SitesSound :=
  mapSites_sitesSound h fun _ hx => ⟨BitVec.zero_and, hx.reject, hx.failBits, hx.failedPages⟩

theorem clearTrialFlags_sitesSound (h : s.SitesSound) : (clearTrialFlags s).SitesSound :=
  mapSites_sitesSound h fun _ hx => ⟨hx.sets, hx.reject, hx.failBits, hx.failedPages⟩

theorem raise_sitesSound (h : s.SitesSound) (c : Condition) (i : SiteId) : (raise c i s).SitesSound :=
  modifySite_sitesSound h i fun _ hx => hx.withCondition c

theorem rejectSite_sitesSound (h : s.SitesSound) (c : Condition) (i : SiteId) (block page : Option Nat) :
    (rejectSite c i block page s).SitesSound := by
  rcases rejectSite_cases c i block page s with ⟨_, kept⟩ | ⟨_, rejected⟩
  · rw [kept]
    exact h
  · rw [rejected]
    exact (modifySite_sitesSound h i fun _ hx => hx.rejected _).congr (offer_sites _ _)

/-! ## The handling of an event (R81, R86, R118) -/

theorem stopTest_sitesSound (h : s.SitesSound) (raised : List Condition) (i : SiteId) (block page : Option Nat) :
    (stopTest raised i block page s).SitesSound := by
  have pulls (b : Bool) (u : State) (hu : u.SitesSound) :
      (if b then requestPull .ownCondition u else u).SitesSound := by
    split
    · exact hu.congr (requestPull_sites _ u)
    · exact hu
  refine pulls _ _ ?_
  split
  · exact rejectSite_sitesSound h _ i block page
  · exact h

theorem filterAction_sitesSound (h : s.SitesSound) (a : Action) (i : SiteId) (block page : Option Nat) :
    (filterAction a i block page s).SitesSound := by
  cases a with
  | ignore => exact h
  | log => exact h
  | rejectSite => exact rejectSite_sitesSound (raise_sitesSound h _ i) _ i block page
  | stopAll => exact (raise_sitesSound h _ i).congr (requestPull_sites _ _)

/-- A listing request leaves the Site Table alone but for the BAD_LIMIT that it may raise (R98, R100). -/
theorem listEvent_sitesSound (h : s.SitesSound) (i : SiteId) (e : SiteEvent) (p : Position) :
    (listEvent i e p s).1.SitesSound := by
  have taken (cause : ListCause) : (takeBlock i p.block p.page cause s).1.SitesSound := by
    rcases takeBlock_cases i p.block p.page cause s with ⟨_, kept⟩ | ⟨_, _, _, listed⟩ | ⟨_, _, full⟩
    · rw [kept]
      exact h
    · rw [listed]
      exact h.congr (offer_sites _ _)
    · rw [full]
      exact h
  unfold listEvent
  split
  · unfold requestListing
    dsimp only
    split
    · exact raise_sitesSound (taken _) _ i
    · exact taken _
  · exact h

theorem updateTotals_sitesSound (h : s.SitesSound) (i : SiteId) (e : SiteEvent) (p : Position) :
    (updateTotals i e p s).SitesSound := by
  cases e with
  | outcome o => exact modifySite_sitesSound h i fun _ hx => hx.addOutcome o _ _
  | opFailure status => exact h

/-- The six steps of a handling, in their order (R81). -/
theorem handleFull_sitesSound (h : s.SitesSound) (i : SiteId) (e : SiteEvent) (p : Position) (a : Action)
    (f : Option (Fin 4)) : (handleFull i e p a f s).SitesSound := by
  have raised := raise_sitesSound h e.condition i
  have listed := listEvent_sitesSound (updateTotals_sitesSound raised i e p) i e p
  exact filterAction_sitesSound (stopTest_sitesSound (listed.congr (offer_sites _ _)) _ i _ _) a i _ _

theorem trialEvent_sitesSound (h : s.SitesSound) (i : SiteId) (c : Condition) : (trialEvent i c s).SitesSound := by
  rcases trialEvent_cases i c s with dropped | flagged
  · rw [dropped]
    exact h
  · rw [flagged]
    exact modifySite_sitesSound h i fun _ hx => ⟨hx.sets, hx.reject, hx.failBits, hx.failedPages⟩

theorem handleTrial_sitesSound (h : s.SitesSound) (i : SiteId) (e : SiteEvent) (p : Position) (f : Option (Fin 4)) :
    (handleTrial i e p f s).SitesSound := by
  have flagged := trialEvent_sitesSound h i e.condition
  unfold handleTrial
  dsimp only
  split
  · exact flagged.congr (offer_sites _ _)
  · exact flagged

theorem handleEvent_sitesSound (h : s.SitesSound) (i : SiteId) (e : SiteEvent) (p : Position) (trial : Bool) :
    (handleEvent i e p trial s).SitesSound := by
  unfold handleEvent
  dsimp only
  split
  · exact h
  · split
    · exact handleTrial_sitesSound h i e p _
    · exact handleFull_sitesSound h i e p _ _

theorem handleTimeout_sitesSound (h : s.SitesSound) (i : SiteId) (block page : Option Nat) (trial : Bool) :
    (handleTimeout i block page trial s).SitesSound := by
  unfold handleTimeout
  split
  · exact trialEvent_sitesSound h i _
  · exact stopTest_sitesSound (raise_sitesSound h _ i) _ i block page

theorem handOutSite_sitesSound (h : s.SitesSound) (c : Search) (i : SiteId) : (handOutSite c s i).SitesSound := by
  have written (result : Option Byte) (trim : Site → Byte) (b : RecordBody) :
      (offer b (modifySite i (fun x => { x with result := result, trim := trim x }) s)).SitesSound :=
    (modifySite_sitesSound h i (f := fun x => { x with result := result, trim := trim x })
      fun _ hx => ⟨hx.sets, hx.reject, hx.failBits, hx.failedPages⟩).congr (offer_sites _ _)
  unfold handOutSite
  dsimp only
  split
  · exact written _ _ _
  · exact stopTest_sitesSound (raise_sitesSound (written _ _ _) _ i) _ i none none

/-! ## The runner's work (R42, R43, R110, R118) -/

/-- Only ACTIVE sites enter a round (R42). -/
theorem formRound_sitesSound (h : s.SitesSound) (a : Ask) (w : RoundWork) (admits : SiteId → Bool) :
    (formRound a w admits s).SitesSound := by
  have formed : (s.formed a w admits).SitesSound := by
    intro i
    cases member : (participantSet admits s).has i with
    | true =>
      rw [(State.formed_participant member).1]
      exact (h i).enterRound ((participantSet_has admits s i).mp member).1
    | false =>
      rw [(State.formed_leftOut member).1]
      exact h i
  exact formed.congr (endRoundIfDone_sites _)

theorem requestSweepRound_sitesSound (h : s.SitesSound) : (requestSweepRound s).SitesSound := by
  unfold requestSweepRound
  split
  · split
    · exact formRound_sitesSound (by exact h) _ _ _
    · exact h
  · exact h

theorem requestRound_sitesSound (h : s.SitesSound) (a : Ask) : (requestRound a s).SitesSound := by
  unfold requestRound
  split
  · exact requestSweepRound_sitesSound h
  all_goals
    split
    · exact formRound_sitesSound h _ _ _
    · exact h

theorem askRound_sitesSound (h : s.SitesSound) (a : Ask) : (askRound a s).SitesSound := by
  unfold askRound
  split
  · exact h
  · exact requestRound_sitesSound h a

theorem handOutNext_sitesSound (h : s.SitesSound) : (handOutNext s).SitesSound := by
  unfold handOutNext
  split
  · split
    · refine State.SitesSound.congr ?_ ((handOutOn_sites _ _).trans (takeStop_sites _))
      exact handOutSite_sitesSound (by exact h) _ _
    · exact h.congr (afterResults_sites _ s)
  · exact h

/-- A step begins with every current set cleared, and a trial with every flag cleared too (R13, R79, R87). -/
theorem beginStep_sitesSound (h : s.SitesSound) : (beginStep s).SitesSound := by
  have cleared := clearCurrent_sitesSound h
  cases hstep : stepAt s.plan s.runner.stepIndex with
  | none =>
    unfold beginStep
    simp only [hstep]
    exact cleared
  | some step =>
    have noted : (if step.note then offer (.stepBegin s.runner.stepIndex step.label) (clearCurrent s)
        else clearCurrent s).SitesSound := by
      split
      · exact cleared.congr (offer_sites _ _)
      · exact cleared
    unfold beginStep
    simp only [hstep]
    split
    · split
      · exact clearTrialFlags_sitesSound noted
      · exact noted.congr (stepWork_sites _)
    · exact noted.congr (stepWork_sites _)

/-- One piece of the runner's work (log entry 39). -/
theorem advance_sitesSound (h : s.SitesSound) : (advance s).SitesSound := by
  unfold advance
  split
  · exact h.congr (boundary_sites s)
  · exact beginStep_sitesSound h
  · exact h.congr (stepWork_sites s)
  · exact askRound_sitesSound h _
  · exact h.congr (closeTrial_sites s)
  · exact handOutNext_sitesSound h
  · exact h
  · exact h
  · exact h

theorem settle_sitesSound (h : s.SitesSound) : (settle s).SitesSound :=
  settle_induction (fun _ ht _ => advance_sitesSound ht) h

/-! ## The events of the ports (R44 to R53) -/

theorem endPart_sitesSound (h : s.SitesSound) (i : SiteId) : (endPart i s).SitesSound :=
  (modifySite_sitesSound (h.congr (takeStop_sites s)) i fun _ hx => hx.leaveRound).congr (endRoundIfDone_sites _)

theorem issueEvent_sitesSound (h : s.SitesSound) (i : SiteId) : (issueEvent i s).SitesSound := by
  have settled := settle_sitesSound h
  unfold issueEvent issueSettled issueLive
  split
  · exact h.congr (endDiscarded_sites i s)
  · split
    · split
      · dsimp only
        split
        · exact endPart_sitesSound (by exact settled) i
        · exact settled
      · exact settled
    · exact settled

/-- A site becomes ready: its operation failed, its data part begins, or its part ends (R46, R49 to R51, R53). -/
theorem siteReady_sitesSound (h : s.SitesSound) (i : SiteId) (r : Round) (status : Byte) :
    (siteReady i r status s).SitesSound := by
  have stopped : (setClocks i Clocks.stopped s).SitesSound := h
  unfold siteReady
  dsimp only
  split
  · split
    · exact endPart_sitesSound (handleEvent_sitesSound stopped i _ _ _) i
    · split
      · exact modifySite_sitesSound h i fun _ hx => ⟨hx.sets, hx.reject, hx.failBits, hx.failedPages⟩
      · exact endPart_sitesSound stopped i
  · exact endPart_sitesSound stopped i

theorem statusLive_sitesSound (h : s.SitesSound) (i : SiteId) (r : Round) (status : Byte) :
    (statusLive i r status s).SitesSound := by
  have counted (n : Nat) :
      (modifySite i (fun x => { x with runCount := n }) (setPort i (s.port i).ended s)).SitesSound :=
    modifySite_sitesSound (by exact h) i fun _ hx => ⟨hx.sets, hx.reject, hx.failBits, hx.failedPages⟩
  exact iteInduction (motive := State.SitesSound) (fun _ => siteReady_sitesSound (counted _) i r status)
    fun _ => counted _

theorem statusEvent_sitesSound (h : s.SitesSound) (i : SiteId) (status : Byte) :
    (statusEvent i status s).SitesSound := by
  have settled := settle_sitesSound h
  unfold statusEvent statusSettled
  split
  · exact h.congr (endDiscarded_sites i s)
  · split
    · split
      · exact statusLive_sitesSound settled i _ status
      · exact settled
    · exact settled

theorem deadlineEvent_sitesSound (h : s.SitesSound) (i : SiteId) : (deadlineEvent i s).SitesSound := by
  unfold deadlineEvent deadlineLive
  split
  · split
    · exact endPart_sitesSound (handleTimeout_sitesSound (by exact h) i _ _ _) i
    · exact h
  · exact h

theorem outcomeFormed_sitesSound (h : s.SitesSound) (i : SiteId) (r : Round) (x : Tally) (p : Position) :
    (outcomeFormed i r x p s).SitesSound := by
  unfold outcomeFormed
  dsimp only
  split
  · exact endPart_sitesSound (by exact h) i
  · exact endPart_sitesSound (handleEvent_sitesSound (by exact h) i _ p _) i

theorem dataEndEvent_sitesSound (h : s.SitesSound) (i : SiteId) : (dataEndEvent i s).SitesSound := by
  unfold dataEndEvent
  split
  · exact h.congr (endDiscarded_sites i s)
  · split
    · split
      · split
        · exact outcomeFormed_sitesSound h i _ _ _
        · exact h
      · exact h
    · exact h

/-! ## The requests that change site records (R10, R22, R89 to R92, R140) -/

theorem startRequest_sitesSound (h : s.SitesSound) : (startRequest s).SitesSound := by
  unfold startRequest
  split
  · split
    · exact h
    · split
      · exact h
      · refine State.SitesSound.congr (clearCurrent_sitesSound h) ((arrive_sites _ _ _).trans ?_)
        exact offer_sites _ _
  · exact h

theorem abortRequest_sitesSound (h : s.SitesSound) : (abortRequest s).SitesSound := by
  have aborted : (if s.runner.state == .idle then abortIdle s else abortRun s).SitesSound := by
    split
    · exact clearTrialFlags_sitesSound h
    · exact mapSites_sitesSound h fun _ hx => hx.abort
  exact aborted.congr (answer_sites _ _ _)

theorem clearResultsRequest_sitesSound (h : s.SitesSound) : (clearResultsRequest s).SitesSound := by
  unfold clearResultsRequest
  split
  · exact mapSites_sitesSound h fun x _ => x.clearResults_sound
  · exact h

theorem reset_sitesSound : State.reset.SitesSound := fun i => State.reset_site i ▸ Site.reset_sound

theorem resetRequest_sitesSound (s : State) : (resetRequest s).SitesSound := reset_sitesSound

theorem disableSite_sitesSound (h : s.SitesSound) (i : SiteId) : (disableSite i s).SitesSound := by
  have disabled := modifySite_sitesSound h i fun _ hx => hx.disable
  unfold disableSite
  dsimp only
  split
  · exact h
  · exact disabled
  · exact disabled

theorem applyCfgWord_sitesSound (h : s.SitesSound) (quiet : Bool) (i : Nat) (w : Word) :
    (applyCfgWord quiet i w s).SitesSound := by
  unfold applyCfgWord
  split
  · split
    · split
      · exact modifySite_sitesSound h _ fun _ hx => hx.enable
      · exact h
    · exact disableSite_sitesSound h _
  · exact modifySite_sitesSound h _ fun _ hx => ⟨hx.sets, hx.reject, hx.failBits, hx.failedPages⟩

theorem applyCfg_sitesSound (quiet : Bool) (index : Nat) (words : List Word) (h : s.SitesSound) :
    (applyCfg quiet index words s).SitesSound := by
  induction words generalizing index s with
  | nil => exact h
  | cons w rest ih => exact ih (index + 1) (applyCfgWord_sitesSound h quiet index w)

theorem siteCfgWriteRequest_sitesSound (h : s.SitesSound) (index : Word) (words : List Word) :
    (siteCfgWriteRequest index words s).SitesSound := by
  unfold siteCfgWriteRequest
  split
  · exact h
  · split
    · exact h
    · exact (applyCfg_sitesSound _ _ words (s := answer .ok [] s) h).congr (endRoundIfDone_sites _)

/-! ## Frames of the link (R163 to R165, R168) -/

theorem writeRequest_sitesSound (h : s.SitesSound) (area : Nat) (index : Word) (words : List Word) :
    (writeRequest area index words s).SitesSound := by
  unfold writeRequest
  split
  · exact h.congr (planWriteRequest_sites _ words s)
  · exact h.congr (setupWriteRequest_sites index words s)
  · exact siteCfgWriteRequest_sitesSound h index words
  · exact h
  · exact h.congr (badListWriteRequest_sites _ words s)
  · exact h.congr (filtersWriteRequest_sites _ words s)
  · exact h
  · exact h

theorem controlRequest_sitesSound (h : s.SitesSound) (code : Nat) : (controlRequest code s).SitesSound := by
  unfold controlRequest
  split
  · exact startRequest_sitesSound h
  · exact h.congr (pauseRequest_sites s)
  · exact h.congr (stepRequest_sites s)
  · exact h.congr (resumeRequest_sites s)
  · exact abortRequest_sitesSound h
  · exact h.congr (stopAllRequest_sites s)
  · exact clearResultsRequest_sitesSound h
  · exact resetRequest_sitesSound s
  · exact h

theorem frameRequest_sitesSound (h : s.SitesSound) (kind area : Nat) (index : Word) (n : Nat) (payload : List Word) :
    (frameRequest kind area index n payload s).SitesSound := by
  unfold frameRequest
  split
  · exact writeRequest_sitesSound h area index payload
  · exact h.congr (readRequest_sites area index n s)
  · exact h.congr (drainRequest_sites index n s)
  · exact controlRequest_sitesSound h _
  · exact h.congr (enlistRequest_sites _ s)
  · exact h
  · exact h
  · exact h

/-- A byte joins the frame, or completes it and brings its request (R163). -/
theorem byteEvent_sitesSound (h : s.SitesSound) (byte : Byte) : (byteEvent byte s).SitesSound := by
  unfold byteEvent assemble
  split
  · split
    · split
      · exact frameRequest_sitesSound h _ _ _ _ _
      · exact h
    · exact h
  · exact h

end

/-! ## Every command -/

theorem exec_sitesSound {s t : State} (c : Instr) (h : s.SitesSound) (answered : exec c s = .next t) :
    t.SitesSound := by
  have settled := settle_sitesSound h
  cases c with
  | start => exact keeps_of_next answered (onRequest_keeps h fun _ => startRequest_sitesSound)
  | pause => exact keeps_of_next answered (onRequest_keeps h fun u hu => hu.congr (pauseRequest_sites u))
  | stepRun => exact keeps_of_next answered (onRequest_keeps h fun u hu => hu.congr (stepRequest_sites u))
  | resume => exact keeps_of_next answered (onRequest_keeps h fun u hu => hu.congr (resumeRequest_sites u))
  | abort => exact keeps_of_next answered (onRequest_keeps h fun _ => abortRequest_sitesSound)
  | stopAll => exact keeps_of_next answered (onRequest_keeps h fun u hu => hu.congr (stopAllRequest_sites u))
  | clearResults => exact keeps_of_next answered (onRequest_keeps h fun _ => clearResultsRequest_sitesSound)
  | reset => exact keeps_of_next answered (onRequest_keeps h fun u _ => resetRequest_sitesSound u)
  | responseEnd => exact keeps_of_next answered h
  | setupWrite index words =>
    exact keeps_of_wellFormed answered (onRequest_keeps h fun u hu => hu.congr (setupWriteRequest_sites index words u))
  | siteCfgWrite index words =>
    exact keeps_of_wellFormed answered (onRequest_keeps h fun _ hu => siteCfgWriteRequest_sitesSound hu index words)
  | preload site position words =>
    exact keeps_of_wellFormed answered (onRequest_keeps h fun u hu => hu.congr (preloadRequest_sites site _ words u))
  | truncation site words =>
    exact keeps_of_wellFormed answered (onRequest_keeps h fun u hu => hu.congr (truncationRequest_sites site words u))
  | write area index words =>
    exact keeps_of_wellFormed answered (onRequest_keeps h fun _ hu => writeRequest_sitesSound hu _ index words)
  | drain ring count =>
    exact keeps_of_wellFormed answered (onRequest_keeps h fun u hu => hu.congr (drainRequest_sites ring count u))
  | enlist value => exact keeps_of_next answered (onRequest_keeps h fun u hu => hu.congr (enlistRequest_sites value u))
  | ack causes => exact keeps_of_next answered (onRequest_keeps h fun _ hu => hu)
  | probe => exact keeps_of_next answered (onRequest_keeps h fun _ hu => hu)
  | powerOnReset straps => exact keeps_of_next answered reset_sitesSound
  | eligibleInterval ticks => exact keeps_of_next answered (h.congr (intervalEvent_sites ticks s))
  | lineIdleTimeout => exact keeps_of_next answered (h.congr (idleEvent_sites s))
  | settlingEnd => exact keeps_of_next answered (h.congr (settlingEndEvent_sites s))
  | lineBreak => exact keeps_of_next answered (h.congr (breakEvent_sites s))
  | framingError => exact keeps_of_next answered (h.congr (framingErrorEvent_sites s))
  | frameGapTimeout => exact keeps_of_next answered h
  | barrierPass peerVeto => exact keeps_of_next answered (settled.congr (barrierEvent_sites peerVeto _))
  | issue site => exact keeps_of_next answered (issueEvent_sitesSound h site)
  | pollTimerExpiry site => exact keeps_of_next answered (settled.congr (pollExpiry_sites site _))
  | statusResult site status => exact keeps_of_next answered (statusEvent_sitesSound h site status)
  | deadlineExpiry site => exact keeps_of_next answered (deadlineEvent_sitesSound settled site)
  | dataPartEnd site => exact keeps_of_next answered (dataEndEvent_sitesSound h site)
  | discardedTransactionEnd site => exact keeps_of_next answered (h.congr (discardedEnd_sites site s))
  | rendezvousTimeout => exact keeps_of_next answered (settled.congr (timeoutEvent_sites _))
  | stopFall => exact keeps_of_next answered (h.congr (stopFallEvent_sites s))
  | stopRise => exact keeps_of_next answered (h.congr (stopRiseEvent_sites s))
  | byteTaken byte => exact keeps_of_next answered (byteEvent_sitesSound h byte)
  | settlingEdge => exact keeps_of_next answered (h.congr (settlingEdgeEvent_sites s))
  | readByte site byte => exact keeps_of_next answered (h.congr (readByteEvent_sites site byte s))
  | unknownRequestFrame => exact keeps_of_next answered (onRequest_keeps h fun _ hu => hu)

end Sys2Proof.Machine

open Sys2Proof Sys2Proof.Machine

/-- Settles O9: every command keeps the site records sound, and so does every piece of the runner's work; a µs leaves
them alone. -/
theorem sitesStaySound : Obligations.SitesStaySound := fun _ _ h answered =>
  step_induction (P := State.SitesSound) (fun _ _ hs => hs) (fun c _ _ hs => exec_sitesSound c hs)
    (fun _ => advance_sitesSound) (fun s hs => hs.congr (tick_sites s)) h answered
end

section
/-! PROOFS. A byte's contribution to its codeword's tally, and the outcome that the codeword tallies form. -/
namespace Sys2Proof.Machine

/-! ## A byte of the data part (R63, R65) -/

/-- The contribution counts the cared bits in which the two bytes differ (R63). -/
theorem contribution_eq (read expected care : Byte) : contribution read expected care =
    ((List.range 8).filter fun k => care.getLsbD k && (read.getLsbD k != expected.getLsbD k)).length := by
  have cared (k : Nat) : ((read ^^^ expected) &&& care).getLsbD k =
      (care.getLsbD k && (read.getLsbD k != expected.getLsbD k)) := by
    rw [BitVec.getLsbD_and, BitVec.getLsbD_xor, Bool.and_comm]
  simp only [contribution, cared]

/-- READ_BYTE at a port that carries a live data part with bytes still to come (R65). -/
theorem exec_readByte_live {s : State} {i : SiteId} {x : Tally} {w : Sweep} {p : Position} (read : Byte)
    (htally : s.tallies.get i = some x) (hsweep : s.sweep = some w) (hmore : x.taken < s.setup.pageBytes)
    (hport : (s.ports.get i).current = some { tx := .readData p, live := true }) :
    exec (.readByte i read) s = .next (tallyByte i w.fields x read s) := by
  have reports : (s.port i).reports .data = true := by simp [Port.reports, State.port, hport, Tx.report]
  simp [exec, execReadByte, readByteEvent, htally, hsweep, hmore, reports]

/-! ## The largest tally and its place (R67, R68) -/

theorem le_largest {sums : List Nat} {n : Nat} (h : n ∈ sums) : n ≤ largest sums :=
  (le_largest_iff sums _).mp le_rfl n h

/-- The largest tally is one of the tallies: were each of them below it, a smaller bound would do. -/
theorem largest_mem {sums : List Nat} (h : sums ≠ []) : largest sums ∈ sums := by
  by_contra missing
  have below (n : Nat) (hn : n ∈ sums) : n < largest sums :=
    lt_of_le_of_ne (le_largest hn) fun e => missing (e ▸ hn)
  obtain ⟨n, hn⟩ := List.exists_mem_of_ne_nil sums h
  have bound := (le_largest_iff sums (largest sums - 1)).mpr fun m hm => Nat.le_sub_one_of_lt (below m hm)
  have := below n hn
  omega

/-- The worst index names a tally that is the largest (R68). -/
theorem formOutcome_worst (threshold : Nat) {sums : List Nat} (h : sums ≠ []) :
    sums[(formOutcome threshold sums).worstIndex]? = some (largest sums) := by
  have place : (formOutcome threshold sums).worstIndex < sums.length :=
    List.findIdx_lt_length_of_exists ⟨_, largest_mem h, beq_self_eq_true _⟩
  rw [List.getElem?_eq_getElem place]
  exact congrArg some (beq_iff_eq.mp (List.findIdx_getElem (w := place)))

/-- Before the worst index every tally is below the largest (R68). -/
theorem formOutcome_before_worst (threshold : Nat) {sums : List Nat} {k : Nat} (h : k < sums.length)
    (before : k < (formOutcome threshold sums).worstIndex) : sums[k] < largest sums := by
  have other : sums[k] ≠ largest sums := by simpa using List.not_of_lt_findIdx before
  exact lt_of_le_of_ne (le_largest (List.getElem_mem h)) other

/-! ## The kind of an outcome (R67) -/

/-- The three ways in which the tallies of a page can lie to 0 and to θ, with the kind that each of them gives. -/
theorem formOutcome_kind_cases (threshold : Nat) (sums : List Nat) :
    ((∀ n ∈ sums, n = 0) ∧ (formOutcome threshold sums).kind = .clean) ∨
    (((∃ n ∈ sums, 0 < n) ∧ ∀ n ∈ sums, n ≤ threshold) ∧ (formOutcome threshold sums).kind = .dataFail) ∨
    ((∃ n ∈ sums, threshold < n) ∧ (formOutcome threshold sums).kind = .pageFail) := by
  by_cases zero : ∀ n ∈ sums, n = 0
  · exact .inl ⟨zero, formOutcome_clean zero threshold⟩
  · have failing : ∃ n ∈ sums, 0 < n := by simpa [Nat.pos_iff_ne_zero] using zero
    by_cases within : ∀ n ∈ sums, n ≤ threshold
    · exact .inr (.inl ⟨⟨failing, within⟩, formOutcome_dataFail failing within⟩)
    · have above : ∃ n ∈ sums, threshold < n := by simpa using within
      exact .inr (.inr ⟨above, formOutcome_pageFail above⟩)

theorem formOutcome_clean_iff (threshold : Nat) (sums : List Nat) :
    (formOutcome threshold sums).kind = .clean ↔ ∀ n ∈ sums, n = 0 := by
  refine ⟨fun clean => ?_, fun zero => formOutcome_clean zero threshold⟩
  rcases formOutcome_kind_cases threshold sums with ⟨zero, _⟩ | ⟨_, kind⟩ | ⟨_, kind⟩
  · exact zero
  · simp [kind] at clean
  · simp [kind] at clean

theorem formOutcome_dataFail_iff (threshold : Nat) (sums : List Nat) :
    (formOutcome threshold sums).kind = .dataFail ↔ (∃ n ∈ sums, 0 < n) ∧ ∀ n ∈ sums, n ≤ threshold := by
  refine ⟨fun fails => ?_, fun ⟨failing, within⟩ => formOutcome_dataFail failing within⟩
  rcases formOutcome_kind_cases threshold sums with ⟨_, kind⟩ | ⟨tallies, _⟩ | ⟨_, kind⟩
  · simp [kind] at fails
  · exact tallies
  · simp [kind] at fails

theorem formOutcome_pageFail_iff (threshold : Nat) (sums : List Nat) :
    (formOutcome threshold sums).kind = .pageFail ↔ ∃ n ∈ sums, threshold < n := by
  refine ⟨fun fails => ?_, fun above => formOutcome_pageFail above⟩
  rcases formOutcome_kind_cases threshold sums with ⟨_, kind⟩ | ⟨_, kind⟩ | ⟨above, _⟩
  · simp [kind] at fails
  · simp [kind] at fails
  · exact above

end Sys2Proof.Machine

open Sys2Proof Sys2Proof.Machine

/-- Settles O47: the byte is tallied, and its contribution counts the cared bits that differ. -/
theorem readByteIsTallied : Obligations.ReadByteIsTallied := by
  intro s i x w p read htally hsweep hmore hport next expected n
  rw [exec_readByte_live read htally hsweep hmore hport, tallyByte, contribution_eq]
  rfl

/-- Settles O58: the kind by how the tallies lie to 0 and to θ, then the worst tally and its place; the other figures
are as the model forms them. -/
theorem outcomeFollowsTallies : Obligations.OutcomeFollowsTallies := fun threshold sums nonempty =>
  ⟨formOutcome_clean_iff threshold sums, formOutcome_dataFail_iff threshold sums,
    formOutcome_pageFail_iff threshold sums, formOutcome_worst threshold nonempty, fun _ => le_largest,
    fun _ => formOutcome_before_worst threshold, List.countP_eq_length_filter.symm, rfl, rfl⟩
end

section
/-! PROOFS. The end of a data part in trial mode: the outcome sets the trial-failed flag or does nothing. -/
namespace Sys2Proof.Machine

/-- The last byte of a live data part forms its outcome; one that is not CLEAN is handled as an event, with the mark of
the round (R51, R70). -/
theorem exec_dataPartEnd_live {s : State} {i : SiteId} {r : Round} {p : Position} {precondition : Bool} {x : Tally}
    (hround : s.round = some r) (hwork : r.work = .page p precondition) (hwaiting : (s.site i).state = .waiting)
    (htally : s.tallies.get i = some x) (hall : x.taken = s.setup.pageBytes)
    (hport : s.ports.get i = { current := some { tx := .readData p, live := true }, queued := none }) :
    let o := formOutcome s.setup.threshold x.sums
    exec (.dataPartEnd i) s = .next (endPart i
      (if o.kind = .clean then s.pageTaken i else handleEvent i (.outcome o) p r.trial (s.pageTaken i))) := by
  intro o
  have formed : exec (.dataPartEnd i) s = .next (outcomeFormed i r x p s) := by
    simp [exec, execDataPartEnd, dataEndEvent, Port.discards, Port.reports, State.port, hport, Tx.report, htally, hall,
      hround, hwork, State.isWaiting, hwaiting]
  have taken : { setPort i (s.port i).ended s with tallies := s.tallies.set i none, streams := s.streams.set i none } =
      s.pageTaken i := by
    simp [setPort, Port.ended, State.port, hport, State.pageTaken]
  rw [formed, outcomeFormed, taken]
  cases hkind : o.kind <;> simp [o]

/-- The state in which a site's trial-failed flag is set if a trial event has failed it (R86). -/
def State.flagged (i : SiteId) (failed : Bool) (s : State) : State :=
  modifySite i (fun x => { x with trialFailed := x.trialFailed || failed }) s

/-- An event that fails no trial leaves the flag as it was (R86). -/
theorem State.flagged_false (i : SiteId) (s : State) : s.flagged i false = s := by
  simp only [State.flagged, modifySite, Table.modify, Bool.or_false]
  exact congrArg (fun sites => { s with sites := sites }) (Table.set_get_self s.sites i)

/-- A trial event sets the flag when its condition is in the trial-fail set, and is dropped otherwise (R86). -/
theorem trialEvent_eq {s : State} {c : Search} (hsearch : s.search = some c) (i : SiteId) (condition : Condition) :
    trialEvent i condition s = s.flagged i (c.fields.failSet.has condition) := by
  cases hfails : c.fields.failSet.has condition with
  | true => simp [trialEvent, hsearch, hfails, State.flagged]
  | false => simp [trialEvent, hsearch, hfails, State.flagged_false]

/-- A trial event that is not ignored, with the log-trials flag clear, offers no record (R86, R153, R159). -/
theorem handleEvent_trial {s : State} {c : Search} (hdefault : s.logsByDefault) (hsearch : s.search = some c)
    (hlog : c.fields.logTrials = false) (i : SiteId) (e : SiteEvent) (p : Position) :
    handleEvent i e p true s = s.flagged i (c.fields.failSet.has e.condition) := by
  simp [handleEvent, decidingFilter_none hdefault.1, classify, hdefault.2, handleTrial, State.logsTrials, hsearch, hlog,
    trialEvent_eq hsearch]

/-- A site's part ends with its flag set or not, while another site is WAITING (R56, R78, R86). -/
theorem endPart_flagged {s : State} {i : SiteId} (hwaiting : (s.site i).state = .waiting)
    (hsettled : s.stopSettled = true) (hothers : s.othersWait i) (failed : Bool) :
    endPart i (s.flagged i failed) = { s with
      sites := s.sites.set i { s.site i with
        state := .active, phase := none, trialFailed := (s.site i).trialFailed || failed } } := by
  obtain ⟨j, hj, hwaits⟩ := hothers
  have others : (s.flagged i failed).othersWait i :=
    ⟨j, hj, by rw [State.flagged, modifySite_site_ne hj]; exact hwaits⟩
  rw [endPart_of_others (s := s.flagged i failed) hsettled others]
  have left := Site.leaveRound_of_waiting
    (x := { s.site i with trialFailed := (s.site i).trialFailed || failed }) hwaiting
  simp only [State.flagged, modifySite, Table.modify, Table.get_set_self, Table.set_set]
  exact congrArg (fun x => { s with sites := s.sites.set i x }) left

end Sys2Proof.Machine

open Sys2Proof Sys2Proof.Machine

/-- Settles O49: a CLEAN outcome fails no trial, and any other one does when its condition is in the trial-fail set. -/
theorem trialEventsOnlyFlag : Obligations.TrialEventsOnlyFlag := by
  intro s i r p pre x c hround hwork htrial _ hsearch hlog hwaiting htally hall hport hoff hdefault hothers hsettled o
    failed
  have handled : (if o.kind = .clean then s.pageTaken i else handleEvent i (.outcome o) p true (s.pageTaken i)) =
      (s.pageTaken i).flagged i failed := by
    have event := handleEvent_trial (s := s.pageTaken i) ⟨hoff, hdefault⟩ hsearch hlog i (.outcome o) p
    cases hkind : o.kind with
    | clean => simp [failed, hkind, State.flagged_false]
    | dataFail => simp [event, failed, hkind, SiteEvent.condition]
    | pageFail => simp [event, failed, hkind, SiteEvent.condition]
  rw [exec_dataPartEnd_live hround hwork hwaiting htally hall hport, htrial]
  exact congrArg Host.Outcome.next ((congrArg (endPart i) handled).trans
    (endPart_flagged (s := s.pageTaken i) hwaiting hsettled hothers failed))
end

section
/-! PROOFS. SITE_CFG_WRITE: each word acts on the record of its own site, and a disable takes its site out of the
search. -/
namespace Sys2Proof.Machine

/-! ## The words of a frame (R89) -/

/-- The word that a frame of words from `index` on holds for the area's word `k`, if it reaches that word. -/
def frameWord (index : Nat) (words : List Word) (k : Nat) : Option Word :=
  if index ≤ k then words[k - index]? else none

theorem frameWord_nil (index k : Nat) : frameWord index [] k = none := by simp [frameWord]

theorem frameWord_cons_self (index : Nat) (w : Word) (rest : List Word) :
    frameWord index (w :: rest) index = some w := by simp [frameWord]

theorem frameWord_cons_of_ne {index k : Nat} (h : k ≠ index) (w : Word) (rest : List Word) :
    frameWord index (w :: rest) k = frameWord (index + 1) rest k := by
  by_cases after : index + 1 ≤ k
  · obtain ⟨n, rfl⟩ := Nat.exists_eq_add_of_le after
    simp [frameWord, Nat.add_assoc, Nat.add_comm 1 n, Nat.add_sub_add_left]
  · simp [frameWord, after, show ¬ index ≤ k by omega]

/-- The words of a frame lie at its index and after it. -/
theorem frameWord_of_lt {index k : Nat} (h : k < index) (words : List Word) : frameWord index words k = none := by
  simp [frameWord, Nat.not_le.mpr h]

/-! ## One site's words (R89, R90, R91) -/

/-- A site's record after its enable word, if the frame holds one. -/
def Site.enabledBy (x : Site) (enable : Option Word) : Site :=
  match enable with
  | none => x
  | some w => if w.getLsbD 0 then x.enable else x.disable

theorem Site.enabledBy_set {w : Word} (h : w.getLsbD 0 = true) (x : Site) : x.enabledBy (some w) = x.enable :=
  if_pos h

theorem Site.enabledBy_clear {w : Word} (h : w.getLsbD 0 = false) (x : Site) : x.enabledBy (some w) = x.disable :=
  if_neg (by simpa using h)

/-- A site's record after its trim word, if the frame holds one (R91). -/
def Site.trimmedBy (x : Site) (trim : Option Word) : Site :=
  match trim with
  | none => x
  | some w => { x with trim := loByte w }

/-- Whether an enable word written clear makes the site OFF (R90, R120). -/
def Site.leavesBy (x : Site) (enable : Option Word) : Bool :=
  match enable with
  | none => false
  | some w => !w.getLsbD 0 && x.state != .off

theorem Site.leavesBy_iff (x : Site) (enable : Option Word) : x.leavesBy enable = true ↔
    (∃ w, enable = some w ∧ w.getLsbD 0 = false) ∧ x.state ≠ .off := by
  cases enable <;> simp [Site.leavesBy]

theorem Site.trimmedBy_eq (x : Site) (trim : Option Word) : x.trimmedBy trim =
    { x with trim := match trim with
        | none => x.trim
        | some w => loByte w } := by
  cases trim <;> rfl

/-- An enable in a quiet state: the site is ACTIVE, and is no longer rejected (R89). -/
theorem Site.enable_eq {x : Site} (h : x.state ≠ .waiting) : x.enable =
    { x with state := .active, reject := if x.state = .rejected then none else x.reject } := by
  obtain ⟨state, _⟩ := x
  cases state <;> simp_all [Site.enable]

/-- A disable leaves an OFF site as it is (R90). -/
theorem Site.disable_of_off {x : Site} (h : x.state = .off) : x.disable = x := by simp [Site.disable, h]

/-- A disable: the site is OFF, with phase and reject fields absent unless it was OFF already (R90). -/
theorem Site.disable_eq (x : Site) : x.disable =
    { x with
      state := .off
      phase := if x.state = .off then x.phase else none
      reject := if x.state = .off then x.reject else none } := by
  obtain ⟨state, _⟩ := x
  cases state <;> simp [Site.disable]

/-- What an enable word makes of a site that is not WAITING, and what it leaves (R89, R90). -/
theorem Site.enabledBy_acts {x : Site} (h : x.state ≠ .waiting) (enable : Option Word) :
    let y := x.enabledBy enable
    let enabled : Prop := ∃ w, enable = some w ∧ w.getLsbD 0 = true
    let disabled : Prop := ∃ w, enable = some w ∧ w.getLsbD 0 = false
    (enabled → y.state = .active) ∧ (disabled → y.state = .off) ∧ (enable = none → y.state = x.state) ∧
    (disabled ∧ x.state ≠ .off → y.phase = none ∧ y.reject = none) ∧
    (enabled ∧ x.state = .rejected → y.phase = x.phase ∧ y.reject = none) ∧
    (¬ (disabled ∧ x.state ≠ .off) → ¬ (enabled ∧ x.state = .rejected) → y.phase = x.phase ∧ y.reject = x.reject) ∧
    y = { x with state := y.state, phase := y.phase, reject := y.reject } := by
  intro y enabled disabled
  cases enable with
  | none =>
    have notEnabled : ¬ enabled := nofun
    have notDisabled : ¬ disabled := nofun
    exact ⟨fun h => absurd h notEnabled, fun h => absurd h notDisabled, fun _ => rfl, fun h => absurd h.1 notDisabled,
      fun h => absurd h.1 notEnabled, fun _ _ => ⟨rfl, rfl⟩, rfl⟩
  | some w =>
    cases hset : w.getLsbD 0 with
    | true =>
      have isEnabled : enabled := ⟨w, rfl, hset⟩
      have notDisabled : ¬ disabled := by simpa [disabled] using hset
      have record : y = _ := (Site.enabledBy_set hset x).trans (Site.enable_eq h)
      rw [record]
      exact ⟨fun _ => rfl, fun h => absurd h notDisabled, nofun, fun h => absurd h.1 notDisabled,
        fun h => ⟨rfl, if_pos h.2⟩, fun _ h => ⟨rfl, if_neg fun rejected => h ⟨isEnabled, rejected⟩⟩, rfl⟩
    | false =>
      have isDisabled : disabled := ⟨w, rfl, hset⟩
      have notEnabled : ¬ enabled := by simpa [enabled] using hset
      have record : y = _ := (Site.enabledBy_clear hset x).trans x.disable_eq
      have off (h : ¬ (disabled ∧ x.state ≠ .off)) : x.state = .off := by
        by_contra on
        exact h ⟨isDisabled, on⟩
      rw [record]
      exact ⟨fun h => absurd h notEnabled, fun _ => rfl, nofun, fun h => ⟨if_neg h.2, if_neg h.2⟩,
        fun h => absurd h.1 notEnabled, fun h _ => ⟨if_pos (off h), if_pos (off h)⟩, rfl⟩

/-- No enable word makes a site WAITING (R89, R90). -/
theorem Site.enabledBy_not_waiting {x : Site} (h : x.state ≠ .waiting) (enable : Option Word) :
    (x.enabledBy enable).state ≠ .waiting := by
  cases enable with
  | none => exact h
  | some w =>
    rw [Site.enabledBy]
    split
    · simp [Site.enable_eq h]
    · simp [Site.disable_eq]

/-! ## One word at the Site Table and the search -/

theorem SiteSet.ext_has {x y : SiteSet} (h : ∀ i, x.has i = y.has i) : x = y :=
  BitVec.eq_of_getLsbD_eq fun k hk => h ⟨k, hk⟩

/-- The search context after some sites have left it (R120). -/
def Search.leftBy (c : Search) (leaves : SiteId → Bool) : Search :=
  { c with
    members := SiteSet.ofPred fun i => c.members.has i && !leaves i
    trialSet := SiteSet.ofPred fun i => c.trialSet.has i && !leaves i }

theorem Search.leftBy_none {leaves : SiteId → Bool} (h : ∀ i, leaves i = false) (c : Search) :
    c.leftBy leaves = c := by
  have all (x : SiteSet) : (SiteSet.ofPred fun i => x.has i && !leaves i) = x := SiteSet.ext_has fun i => by simp [h i]
  simp [Search.leftBy, all]

theorem Search.leave_eq (c : Search) (i : SiteId) : c.leave i = c.leftBy fun j => decide (j = i) := by
  have out (x : SiteSet) : x.without i = SiteSet.ofPred fun j => x.has j && !decide (j = i) :=
    SiteSet.ext_has fun j => by simp [SiteSet.has_without]
  simp [Search.leave, Search.leftBy, out]

theorem Search.leftBy_leftBy (c : Search) (first second : SiteId → Bool) :
    (c.leftBy first).leftBy second = c.leftBy fun i => first i || second i := by
  simp [Search.leftBy, Bool.and_assoc]

/-- The state in which the sites' enable and trim words have been written, `enable` and `trim` giving those of each
site (R89, R91, R120). -/
def State.configured (enable trim : SiteId → Option Word) (s : State) : State :=
  { s with
    sites := Table.ofFn fun i => ((s.site i).enabledBy (enable i)).trimmedBy (trim i)
    search := s.search.map (·.leftBy fun i => (s.site i).leavesBy (enable i)) }

theorem State.configured_site (enable trim : SiteId → Option Word) (s : State) (i : SiteId) :
    (s.configured enable trim).site i = ((s.site i).enabledBy (enable i)).trimmedBy (trim i) := Table.get_ofFn _ _

theorem State.configured_not_waiting {s : State} (h : ∀ i, (s.site i).state ≠ .waiting)
    (enable trim : SiteId → Option Word) (i : SiteId) : ((s.configured enable trim).site i).state ≠ .waiting := by
  rw [State.configured_site, Site.trimmedBy_eq]
  exact Site.enabledBy_not_waiting (h i) _

/-- A word of a frame is the enable word or the trim word of its site (R172). -/
theorem cfgSite_cases {k : Nat} (h : k < 64) : k = 2 * (cfgSite k).val ∨ k = 2 * (cfgSite k).val + 1 := by
  simp only [cfgSite]
  omega

/-- A disable where no site is WAITING: the record, and the search that the site leaves (R90, R120). -/
theorem disableSite_of_not_waiting {s : State} {i : SiteId} (h : (s.site i).state ≠ .waiting) : disableSite i s =
    { s with
      sites := s.sites.set i (s.site i).disable
      search := if (s.site i).state = .off then s.search else s.search.map (·.leave i) } := by
  by_cases off : (s.site i).state = .off
  · have same : s.sites.set i (s.site i) = s.sites := Table.set_get_self s.sites i
    simp [disableSite, off, Site.disable_of_off off, same]
  · rw [disableSite_eq off, if_neg h, if_neg off, Site.disable_of_enabled off]
    rfl

/-- Words of one site act on its record, and take it out of the search or leave the search as it is. -/
theorem State.configured_of_one {i : SiteId} {enable trim : SiteId → Option Word}
    (henable : ∀ j, j ≠ i → enable j = none) (htrim : ∀ j, j ≠ i → trim j = none) (s : State) :
    s.configured enable trim =
      { s with
        sites := s.sites.set i (((s.site i).enabledBy (enable i)).trimmedBy (trim i))
        search := if (s.site i).leavesBy (enable i) then s.search.map (·.leave i) else s.search } := by
  have sites : (s.configured enable trim).sites =
      s.sites.set i (((s.site i).enabledBy (enable i)).trimmedBy (trim i)) := by
    refine Table.ext_get fun j => (Table.get_ofFn _ j).trans ?_
    rw [Table.get_set]
    split
    · next same => rw [same]
    · next other => rw [henable j (Ne.symm other), htrim j (Ne.symm other)]; rfl
  have kept {j : SiteId} (hj : j ≠ i) : (s.site j).leavesBy (enable j) = false := by rw [henable j hj]; rfl
  have search : (s.configured enable trim).search =
      if (s.site i).leavesBy (enable i) then s.search.map (·.leave i) else s.search := by
    split
    · next leaves =>
      have only : (fun j => (s.site j).leavesBy (enable j)) = fun j => decide (j = i) := by
        funext j
        by_cases hj : j = i
        · simp [hj, leaves]
        · simp [hj, kept hj]
      simp only [State.configured, only, Search.leave_eq]
    · next stays =>
      have none : ∀ j, (s.site j).leavesBy (enable j) = false := fun j => by
        by_cases hj : j = i
        · simpa [hj] using stays
        · exact kept hj
      simp [State.configured, Search.leftBy_none none]
  rw [← sites, ← search]
  rfl

/-- One word of a frame in a quiet state: the enable word of its site, or the trim word (R89, R90, R91). -/
theorem applyCfgWord_eq {s : State} (h : ∀ i, (s.site i).state ≠ .waiting) {k : Nat} (hk : k < 64) (w : Word) :
    applyCfgWord true k w s = s.configured (fun i => if k = 2 * i.val then some w else none)
      (fun i => if k = 2 * i.val + 1 then some w else none) := by
  have other {j : SiteId} (hj : j ≠ cfgSite k) : k ≠ 2 * j.val ∧ k ≠ 2 * j.val + 1 := by
    have ne : j.val ≠ (cfgSite k).val := fun e => hj (Fin.ext e)
    have := cfgSite_cases hk
    omega
  rw [State.configured_of_one (i := cfgSite k) (fun j hj => if_neg (other hj).1) fun j hj => if_neg (other hj).2]
  rcases cfgSite_cases hk with even | odd
  · have parity : k % 2 = 0 := by omega
    rw [if_pos even, if_neg (by omega)]
    cases hset : w.getLsbD 0 with
    | true =>
      simp only [applyCfgWord, parity, hset, modifySite, Table.modify, Site.enabledBy, Site.trimmedBy, Site.leavesBy]
      rfl
    | false =>
      simp only [applyCfgWord, parity, hset, disableSite_of_not_waiting (h _), Site.enabledBy, Site.trimmedBy,
        Site.leavesBy]
      cases hstate : (s.site (cfgSite k)).state <;> rfl
  · have parity : k % 2 = 1 := by omega
    rw [if_pos odd, if_neg (by omega)]
    simp only [applyCfgWord, parity, modifySite, Table.modify, Site.enabledBy, Site.trimmedBy, Site.leavesBy]
    rfl

/-- A word of a frame is its first word, or lies in the rest of it. -/
theorem frameWord_cons (index : Nat) (w : Word) (rest : List Word) (k : Nat) :
    (index = k ∧ frameWord index (w :: rest) k = some w ∧ frameWord (index + 1) rest k = none) ∨
    (index ≠ k ∧ frameWord index (w :: rest) k = frameWord (index + 1) rest k) := by
  by_cases hk : index = k
  · subst hk
    exact .inl ⟨rfl, frameWord_cons_self _ _ _, frameWord_of_lt (Nat.lt_succ_self _) _⟩
  · exact .inr ⟨hk, frameWord_cons_of_ne (Ne.symm hk) _ _⟩

/-- At one site, a frame acts as its first word and then the rest of it. -/
theorem Site.frame_cons (x : Site) (index : Nat) (w : Word) (rest : List Word) (i : SiteId) :
    let first (k : Nat) : Option Word := if index = k then some w else none
    let next := (x.enabledBy (first (2 * i.val))).trimmedBy (first (2 * i.val + 1))
    let enable := frameWord index (w :: rest) (2 * i.val)
    (next.enabledBy (frameWord (index + 1) rest (2 * i.val))).trimmedBy (frameWord (index + 1) rest (2 * i.val + 1)) =
      (x.enabledBy enable).trimmedBy (frameWord index (w :: rest) (2 * i.val + 1)) ∧
    (x.leavesBy (first (2 * i.val)) || next.leavesBy (frameWord (index + 1) rest (2 * i.val))) = x.leavesBy enable := by
  intro first next enable
  rcases frameWord_cons index w rest (2 * i.val) with ⟨here, now, later⟩ | ⟨ne, same⟩
  · rcases frameWord_cons index w rest (2 * i.val + 1) with ⟨h, _⟩ | ⟨trimNe, trimSame⟩
    · omega
    · simp only [next, enable, first, if_pos here, if_neg trimNe, now, later, trimSame, Site.leavesBy, Bool.or_false,
        and_true]
      rfl
  · rcases frameWord_cons index w rest (2 * i.val + 1) with ⟨here, now, later⟩ | ⟨trimNe, trimSame⟩
    · have none : frameWord (index + 1) rest (2 * i.val) = none := frameWord_of_lt (by omega) _
      simp only [next, enable, first, if_neg ne, if_pos here, same, none, now, later, Site.leavesBy, Bool.or_false,
        and_true]
      rfl
    · simp only [next, enable, first, if_neg ne, if_neg trimNe, same, trimSame]
      exact ⟨rfl, Bool.false_or _⟩

/-- The words of an accepted frame in a quiet state, with no site WAITING: each acts on its own site (R89). -/
theorem applyCfg_eq {words : List Word} {index : Nat} {s : State} (h : ∀ i, (s.site i).state ≠ .waiting)
    (hlast : index + words.length ≤ 64) : applyCfg true index words s =
      s.configured (fun i => frameWord index words (2 * i.val)) (fun i => frameWord index words (2 * i.val + 1)) := by
  induction words generalizing index s with
  | nil =>
    have sites : (Table.ofFn fun i => s.site i) = s.sites := Table.ext_get fun i => Table.get_ofFn _ i
    simp [applyCfg, State.configured, frameWord_nil, Site.enabledBy, Site.trimmedBy, sites, Search.leftBy_none,
      Site.leavesBy]
  | cons w rest ih =>
    rw [List.length_cons] at hlast
    have site (i : SiteId) := (s.site i).frame_cons index w rest i
    rw [applyCfg, applyCfgWord_eq h (by omega), ih (State.configured_not_waiting h _ _) (by omega)]
    simp only [State.configured, State.site, Table.get_ofFn, Option.map_map, Function.comp_def, Search.leftBy_leftBy]
      at site ⊢
    simp only [fun i => (site i).1, fun i => (site i).2]

/-! ## The request -/

/-- An accepted frame in a quiet state with no round and no site WAITING (R89). -/
theorem siteCfgWriteRequest_quiet {s : State} {index : Word} {words : List Word} (hquiet : s.quiet = true)
    (hround : s.round = none) (h : ∀ i, (s.site i).state ≠ .waiting) (hlast : index.toNat + words.length ≤ 64) :
    siteCfgWriteRequest index words s = (answer .ok [] s).configured
      (fun i => frameWord index.toNat words (2 * i.val)) (fun i => frameWord index.toNat words (2 * i.val + 1)) := by
  have applied := applyCfg_eq (s := answer .ok [] s) h hlast
  rw [siteCfgWriteRequest, if_neg (by omega), hquiet, applied]
  rcases endRoundIfDone_cases ((answer .ok [] s).configured (fun i => frameWord index.toNat words (2 * i.val))
    (fun i => frameWord index.toNat words (2 * i.val + 1))) with ⟨flying, _⟩ | ⟨_, e⟩
  · simp [State.configured, hround] at flying
  · exact e

/-- Outside the quiet states one word that asks for a refused change refuses the frame (R89). -/
theorem anyCfgRefused_of_word {s : State} {words : List Word} {index k : Nat} {w : Word} (hle : index ≤ k)
    (hw : words[k - index]? = some w) (h : cfgRefused s k w = true) : anyCfgRefused s index words = true := by
  induction words generalizing index with
  | nil => simp at hw
  | cons v rest ih =>
    rw [anyCfgRefused, Bool.or_eq_true]
    rcases Nat.eq_or_lt_of_le hle with rfl | hlt
    · simp only [Nat.sub_self, List.getElem?_cons_zero, Option.some.injEq] at hw
      exact .inl (hw ▸ h)
    · have inRest : k - index = k - (index + 1) + 1 := by omega
      rw [inRest, List.getElem?_cons_succ] at hw
      exact .inr (ih hlt hw)

theorem siteCfgWriteRequest_refused {s : State} {index : Word} {words : List Word} (hquiet : s.quiet = false)
    (hlast : index.toNat + words.length ≤ 64) (h : anyCfgRefused s index.toNat words = true) :
    siteCfgWriteRequest index words s = answer .wrongState [] s := by
  rw [siteCfgWriteRequest, if_neg (by omega), hquiet, h]
  rfl

theorem cfgSite_trimWord (i : SiteId) : cfgSite (2 * i.val + 1) = i := Fin.ext (by simp only [cfgSite]; omega)

/-- Outside the quiet states an enable of an OFF site is refused (R89). -/
theorem cfgRefused_enable {s : State} {i : SiteId} {w : Word} (hset : w.getLsbD 0 = true)
    (hoff : (s.site i).state = .off) : cfgRefused s (2 * i.val) w = true := by
  simp only [cfgRefused, Nat.mul_mod_right, hset, cfgSite_enableWord, Site.enabled, hoff]
  rfl

/-- Outside the quiet states a change of a trim code is refused (R89). -/
theorem cfgRefused_trim {s : State} {i : SiteId} {w : Word} (hcode : loByte w ≠ (s.site i).trim) :
    cfgRefused s (2 * i.val + 1) w = true := by
  have parity : (2 * i.val + 1) % 2 = 1 := by omega
  simp [cfgRefused, parity, cfgSite_trimWord, hcode]

end Sys2Proof.Machine

open Sys2Proof Sys2Proof.Machine

/-- Settles O25: the accepted frame, site by site and at the search, then the refusals. -/
theorem siteCfgWriteActsOrRefuses : Obligations.SiteCfgWriteActsOrRefuses := by
  refine ⟨fun s index words takes hquiet hround hwaiting hone hlast => ?_, fun s index words takes hone hmany => ?_⟩
  · refine ⟨_, (exec_siteCfgWrite takes index hone (by omega)).trans
      (congrArg Host.Outcome.next (siteCfgWriteRequest_quiet hquiet hround hwaiting hlast)), rfl, ?_⟩
    intro enable trim enabled disabled
    refine ⟨fun i => ?_, fun hnone => ?_, fun c hsearch => ?_⟩
    · have record := State.configured_site (fun i => frameWord index.toNat words (2 * i.val))
        (fun i => frameWord index.toNat words (2 * i.val + 1)) (answer .ok [] s) i
      change _ = ((s.site i).enabledBy (enable i)).trimmedBy (trim i) at record
      obtain ⟨active, off, same, cut, restored, kept, frame⟩ := Site.enabledBy_acts (hwaiting i) (enable i)
      rw [record, Site.trimmedBy_eq]
      refine ⟨active, off, same, cut, restored, kept, ?_, ?_⟩
      · have code : ((s.site i).enabledBy (enable i)).trim = (s.site i).trim := by rw [frame]
        cases trim i with
        | none => exact code
        | some w => rfl
      · rw [frame]
    · simp [State.configured, hnone]
    · have leaves (i : SiteId) : (s.site i).leavesBy (enable i) = true ↔ disabled i ∧ (s.site i).state ≠ .off :=
        Site.leavesBy_iff _ _
      refine ⟨c.leftBy fun i => (s.site i).leavesBy (enable i), congrArg (Option.map _) hsearch, rfl, fun i => ?_⟩
      have left (x : SiteSet) : (SiteSet.ofPred fun j => x.has j && !(s.site j).leavesBy (enable j)).has i = true ↔
          x.has i = true ∧ ¬ (disabled i ∧ (s.site i).state ≠ .off) := by
        rw [SiteSet.has_ofPred, Bool.and_eq_true, Bool.not_eq_true', ← leaves, Bool.not_eq_true]
      exact ⟨left c.members, left c.trialSet⟩
  · have run := exec_siteCfgWrite takes index hone hmany
    refine ⟨fun past => ?_, fun i w hlast hquiet hle hw hset hoff => ?_, fun i w hlast hquiet hle hw hcode => ?_⟩
    · rw [run, siteCfgWriteRequest, if_pos past]
    · rw [run, siteCfgWriteRequest_refused hquiet hlast (anyCfgRefused_of_word hle hw (cfgRefused_enable hset hoff))]
    · rw [run, siteCfgWriteRequest_refused hquiet hlast (anyCfgRefused_of_word hle hw (cfgRefused_trim hcode))]
end

section
/-! PROOFS. The search's end: the value that its trials find, the results that are formed from it, and their handing
out, one site at a time. -/
namespace Sys2Proof.Machine

/-! ## Records offered in order -/

theorem offerAll_map (f : SiteId → RecordBody) (sites : List SiteId) (s : State) :
    offerAll (sites.map f) s = sites.foldl (fun u i => offer (f i) u) s := by
  rw [offerAll, List.foldl_map]

/-- Offers leave the frozen state as it was. -/
theorem offerAll_log_frozen (bs : List RecordBody) (s : State) : (offerAll bs s).log.frozen = s.log.frozen := by
  induction bs generalizing s with
  | nil => rfl
  | cons b rest ih => exact (ih (offer b s)).trans (offer_log_frozen b s)

/-- Offers to a frozen log are discarded (R149). -/
theorem offerAll_of_frozen (bs : List RecordBody) {s : State} (h : s.log.frozen = true) : offerAll bs s = s := by
  induction bs with
  | nil => rfl
  | cons b rest ih =>
    have discarded : offer b s = s := by simp [offer, h]
    rw [offerAll, List.foldl_cons, discarded]
    exact ih

/-! ## The value that the trials find (R109, R114) -/

/-- The value after `n` trials of which those at a search value from `b` on pass (R109, R114). -/
def valueOfTrials (bits b n : Nat) : Nat :=
  (List.range n).foldl
    (fun r j => valueAfter bits (j + 1) r (if b ≤ trialValue bits (j + 1) r then .pass else .fail)) 0

/-- Trial `n + 1` halves the range in which the boundary lies. -/
theorem valueOfTrials_succ {bits n : Nat} (h : n < bits) (b : Nat) : valueOfTrials bits b (n + 1) =
    if b ≤ valueOfTrials bits b n + 2 ^ (bits - (n + 1)) - 1 then valueOfTrials bits b n
    else valueOfTrials bits b n + 2 ^ (bits - (n + 1)) := by
  rw [valueOfTrials, List.range_succ, List.foldl_append]
  change valueAfter bits (n + 1) (valueOfTrials bits b n)
    (if b ≤ trialValue bits (n + 1) (valueOfTrials bits b n) then .pass else .fail) = _
  rw [trialValue, if_pos (show n + 1 ≤ bits from h), valueAfter_eq]
  split <;> simp [show n + 1 ≤ bits from h]

/-- The boundary lies in the range of 2^(W − n) values from the value after `n` trials, or that range is the last
one. -/
theorem valueOfTrials_bounds {bits n : Nat} (h : n ≤ bits) (b : Nat) :
    valueOfTrials bits b n ≤ b ∧ valueOfTrials bits b n + 2 ^ (bits - n) ≤ 2 ^ bits ∧
      (b < valueOfTrials bits b n + 2 ^ (bits - n) ∨ valueOfTrials bits b n + 2 ^ (bits - n) = 2 ^ bits) := by
  induction n with
  | zero => simp [valueOfTrials]
  | succ n ih =>
    have half : 2 ^ (bits - n) = 2 * 2 ^ (bits - (n + 1)) := by
      rw [show bits - n = bits - (n + 1) + 1 by omega, Nat.pow_succ, Nat.mul_comm]
    have positive : 0 < 2 ^ (bits - (n + 1)) := Nat.two_pow_pos _
    have before := ih (by omega)
    rw [half] at before
    rw [valueOfTrials_succ (by omega)]
    split <;> omega

/-- After trial W the value is the boundary, or 2^W − 1 when that is below it. -/
theorem valueOfTrials_all (bits b : Nat) : valueOfTrials bits b bits = min b (2 ^ bits - 1) := by
  have bounds := valueOfTrials_bounds (Nat.le_refl bits) b
  rw [Nat.sub_self, Nat.pow_zero] at bounds
  omega

/-- The final trim is the code plus the margin, within 0 and 2^W − 1 (R117). -/
theorem finalTrim_eq (f : SearchFields) (code : Nat) :
    ((finalTrim f code : Nat) : Int) = max 0 (min (code + f.margin) ((2 ^ f.bits - 1 : Nat) : Int)) := by
  rw [finalTrim, maxValue]
  generalize 2 ^ f.bits - 1 = top
  omega

/-! ## The results (R116) -/

/-- The search value that gives a site's result: its own, or the station's (R116). -/
def Search.valueOf (c : Search) (i : SiteId) : Nat := if c.fields.scope = .site then c.values.get i else c.stationValue

/-- The verdict that counts as the extra trial's for a site: its own, or the combined one (R116). -/
def Search.extraVerdict (c : Search) (i : SiteId) (s : State) : Verdict :=
  if c.fields.scope = .site then (s.site i).verdict else c.combined.getD .fail

theorem Site.verdict_eq_fail_iff (x : Site) : x.verdict = .fail ↔ x.trialFailed = true := by
  cases h : x.trialFailed <;> simp [Site.verdict, h]

theorem Search.extraVerdict_eq_fail_iff (c : Search) (i : SiteId) (s : State) : c.extraVerdict i s = .fail ↔
    if c.fields.scope = .site then (s.site i).trialFailed = true else c.combined ≠ some .pass := by
  unfold Search.extraVerdict
  split
  · exact Site.verdict_eq_fail_iff _
  · rcases c.combined with _ | _ | _ <;> simp

/-- A result is absent when the value is 2^W − 1 and the extra trial failed, and else the code of the value (R116). -/
theorem resultCode_eq (c : Search) (i : SiteId) (s : State) : resultCode c i s =
    if c.valueOf i = 2 ^ c.fields.bits - 1 ∧ c.extraVerdict i s = .fail then none
    else some (codeOf c.fields (c.valueOf i)) := by
  cases hscope : c.fields.scope <;> simp [resultCode, Search.valueOf, Search.extraVerdict, hscope, maxValue]

/-- The trial count of a site (R114). -/
theorem trialCount_eq (c : Search) (i : SiteId) : trialCount c i =
    if c.valueOf i = 2 ^ c.fields.bits - 1 then c.fields.bits + 1 else c.fields.bits := by
  cases hscope : c.fields.scope <;> simp [trialCount, Search.valueOf, hscope, maxValue]

/-! ## The close of the last trial of SITE scope (R112, R116, R118) -/

/-- The end of the trials with a member site left: the results are formed, and the handing out begins (R116, R118). -/
theorem finishTrials_of_members {c : Search} (hmembers : c.members ≠ 0) (s : State) :
    finishTrials c s = s.handingOut (c.formResults s) := by
  rcases handOutOn_cases (c.formResults s) (s.handingOut (c.formResults s)) with ⟨none, _⟩ | ⟨_, e⟩
  · exact absurd none hmembers
  · exact e

/-- No further trial follows in SITE scope after trial W without a member at 2^W − 1, nor after the extra trial
(R114). -/
theorem decideNext_site_done {c : Search} (hscope : c.fields.scope = .site)
    (h : c.trial = c.fields.bits ∧ (∀ i, c.members.has i = true → c.values.get i ≠ 2 ^ c.fields.bits - 1) ∨
      c.trial = c.fields.bits + 1) (s : State) : decideNext c s = finishTrials c s := by
  rcases h with ⟨last, decided⟩ | extra
  · have none : allFailedSet c = 0#32 := SiteSet.ext_has fun i => by
      rw [SiteSet.has_zero, Bool.eq_false_iff, ne_eq, allFailedSet_has]
      exact fun ⟨member, top⟩ => decided i member top
    simp [decideNext, last, hscope, none]
  · simp [decideNext, extra]

/-- The records of a trial's close (R115). -/
def Search.trialRecords (c : Search) (s : State) : List RecordBody := (membersInOrder c.trialSet).map (c.siteRecord s)

/-- The context after the close of the last trial: the values moved, the results formed and none handed out (R118). -/
def Search.concluded (c : Search) (s : State) : Search :=
  { c with
    phase := .final, values := (c.siteJudged s).values, outstanding := c.members
    results := Table.ofFn fun i => if c.members.has i then resultCode (c.siteJudged s) i s else none }

/-- The state after the close of the last trial of SITE scope, with some causes of ATTN: its records offered, and the
handing out begun (R115, R118). -/
def State.closedLast (s : State) (c : Search) (causes : BitVec 5) : State :=
  { s.handingOut (c.concluded s) with
    log := (offerAll (c.trialRecords s) s).log, link := { s.link with causes := causes } }

/-- The close of the last trial of SITE scope (R112, R115, R118). -/
theorem closeTrial_last {s : State} {c : Search} (hroom : s.headroomShort = false) (hsearch : s.search = some c)
    (hscope : c.fields.scope = .site) (hmembers : c.members ≠ 0)
    (hlast : c.trial = c.fields.bits ∧
        (∀ i, c.members.has i = true → (c.siteJudged s).values.get i ≠ 2 ^ c.fields.bits - 1) ∨
      c.trial = c.fields.bits + 1) :
    ∃ causes, closeTrial s = s.closedLast c causes := by
  have closed : closeTrial s = decideNext (c.siteJudged s) ((membersInOrder c.trialSet).foldl
      (offerTrialResult (c.siteJudged s)) { s with search := some (c.siteJudged s) }) :=
    closeTrial_site hroom hsearch hscope
  have log := foldl_offerTrialResult_log c (c.siteJudged s) rfl rfl rfl s (membersInOrder c.trialSet)
    { s with search := some (c.siteJudged s) } s rfl rfl rfl rfl
  rw [closed, decideNext_site_done (c := c.siteJudged s) hscope hlast,
    finishTrials_of_members (c := c.siteJudged s) hmembers, foldl_offerTrialResult_frame, log]
  unfold State.closedLast
  rw [Search.trialRecords, offerAll_map]
  exact ⟨_, rfl⟩

/-! ## The sites in order (log entry 9) -/

theorem mem_membersInOrder {x : SiteSet} {i : SiteId} : i ∈ membersInOrder x ↔ x.has i = true := by
  simp [membersInOrder]

theorem membersInOrder_sorted (x : SiteSet) : (membersInOrder x).Pairwise (· < ·) :=
  (List.pairwise_lt_finRange 32).filter _

/-- The least member of a set comes first. -/
theorem membersInOrder_of_least {x : SiteSet} {i : SiteId} (hi : x.has i = true)
    (hleast : ∀ j, x.has j = true → i ≤ j) : ∃ rest, membersInOrder x = i :: rest := by
  have member := mem_membersInOrder.mpr hi
  have sorted := membersInOrder_sorted x
  cases hx : membersInOrder x with
  | nil => simp [hx] at member
  | cons j rest =>
    rw [hx] at member sorted
    have first : i ≤ j := hleast j (mem_membersInOrder.mp (by simp [hx]))
    rcases List.mem_cons.mp member with rfl | later
    · exact ⟨rest, rfl⟩
    · exact absurd (List.rel_of_pairwise_cons sorted later) (not_lt.mpr first)

/-- The first member is none of the others. -/
theorem membersInOrder_head_not_mem {x : SiteSet} {i : SiteId} {rest : List SiteId} (h : membersInOrder x = i :: rest) :
    i ∉ rest := fun later =>
  absurd (List.rel_of_pairwise_cons (h ▸ membersInOrder_sorted x) later) (lt_irrefl i)

/-- Without its first member a set has the others. -/
theorem membersInOrder_without {x : SiteSet} {i : SiteId} {rest : List SiteId} (h : membersInOrder x = i :: rest) :
    membersInOrder (x.without i) = rest := by
  have split : membersInOrder (x.without i) = (membersInOrder x).filter fun j => decide (j ≠ i) := by
    simp only [membersInOrder, SiteSet.has_without, List.filter_filter, Bool.and_comm]
  have kept : rest.filter (fun j => decide (j ≠ i)) = rest :=
    List.filter_eq_self.mpr fun j hj => decide_eq_true fun e => membersInOrder_head_not_mem h (e ▸ hj)
  rw [split, h, List.filter_cons_of_neg (by simp), kept]

/-- A set without members in order is empty. -/
theorem membersInOrder_eq_nil_iff {x : SiteSet} : membersInOrder x = [] ↔ x = 0 := by
  refine ⟨fun h => SiteSet.ext_has fun i => ?_, fun h => ?_⟩
  · have out : i ∉ membersInOrder x := by simp [h]
    rw [mem_membersInOrder] at out
    exact (Bool.eq_false_iff.mpr out).trans (SiteSet.has_zero i).symm
  · subst h
    exact List.eq_nil_iff_forall_not_mem.mpr fun i hi => by simp [mem_membersInOrder, SiteSet.has_zero] at hi

/-! ## The handling of one site's result (R80, R82, R83, R88, R118) -/

/-- A site's record as its result is handed out: the code with its final trim, or no result and SEARCH_OPEN (R118). -/
def Site.handed (x : Site) (f : SearchFields) (code : Option Nat) : Site :=
  match code with
  | some k => { x with result := some (toByte k), trim := toByte (finalTrim f k) }
  | none => { x with result := none }.withCondition .searchOpen

/-- The SEARCH_RESULT record of a site (R118). -/
def Search.resultRecord (c : Search) (i : SiteId) : RecordBody :=
  .searchResult
    { site := i, step := c.step, scope := c.fields.scope, code := c.results.get i
      trim := (c.results.get i).map (finalTrim c.fields), trials := trialCount c i }

/-- The effect of a handed-out result before the stop test (R118). -/
def State.handedOut (s : State) (c : Search) (i : SiteId) : Effect :=
  { site := (s.site i).handed c.fields (c.results.get i), list := s.list i, records := [c.resultRecord i], pulls := [] }

/-- A present result is handed out; an absent one raises SEARCH_OPEN, and the stop test follows (R118). -/
theorem handOutSite_eq (c : Search) (s : State) (i : SiteId) : handOutSite c s i =
    if (c.results.get i).isSome then s.handled i (s.handedOut c i)
    else stopTest [.searchOpen] i none none (s.handled i (s.handedOut c i)) := by
  have written (f : Site → Site) : modifySite i f s = s.handled i { s.untouched i with site := f (s.site i) } := by
    have h := modifySite_handled i f (s.untouched i) s
    rwa [State.handled_untouched] at h
  unfold handOutSite
  simp only [written, offer_handled, raise_handled]
  cases hcode : c.results.get i <;> simp only [State.handedOut, Search.resultRecord, hcode] <;> rfl

/-- Whether the stop test of a condition rejects a site in a state (R82). -/
def State.rejects (s : State) (c : Condition) (x : SiteState) : Prop :=
  s.setup.siteStop.has c = true ∧ (x = .active ∨ x = .waiting)

/-- The effect with its site judged by the site-stop mask: rejected or left as it is (R82). -/
def Effect.judged (e : Effect) (i : SiteId) (c : Condition) (s : State) : Effect :=
  if s.setup.siteStop.has c = true ∧ (e.site.state = .active ∨ e.site.state = .waiting) then
    e.reject i c s.runner.stepIndex none none else e

theorem Effect.judged_kept {e : Effect} {c : Condition} {s : State} (h : ¬ s.rejects c e.site.state) (i : SiteId) :
    e.judged i c s = e := if_neg h

theorem Effect.judged_rejected {e : Effect} {c : Condition} {s : State} (h : s.rejects c e.site.state) (i : SiteId) :
    e.judged i c s = e.reject i c s.runner.stepIndex none none := if_pos h

theorem Effect.judged_list (e : Effect) (i : SiteId) (c : Condition) (s : State) : (e.judged i c s).list = e.list := by
  unfold Effect.judged
  split <;> rfl

theorem Effect.judged_pulls (e : Effect) (i : SiteId) (c : Condition) (s : State) :
    (e.judged i c s).pulls = e.pulls := by
  unfold Effect.judged
  split <;> rfl

/-- The effect with the stop test of one condition made: the site judged, and an own pull asked for where the
mainframe-stop mask holds the condition (R82, R83). -/
def Effect.tested (e : Effect) (i : SiteId) (c : Condition) (s : State) : Effect :=
  { e.judged i c s with pulls := if s.setup.mainframeStop.has c then e.pulls ++ [.ownCondition] else e.pulls }

/-- Rejecting a site after a handling at it (R82). -/
theorem rejectSite_handled_eq (i : SiteId) (c : Condition) (e : Effect) (s : State) :
    rejectSite c i none none (s.handled i e) = s.handled i
      (if e.site.state = .active ∨ e.site.state = .waiting then e.reject i c s.runner.stepIndex none none else e) := by
  have inPlay : (s.handled i e).inPlay i = true ↔ e.site.state = .active ∨ e.site.state = .waiting := by
    simp [State.inPlay, State.isActive, State.isWaiting]
  rcases rejectSite_cases c i none none (s.handled i e) with ⟨out, h⟩ | ⟨inside, h⟩
  · rw [h, if_neg fun hin => by simp [inPlay.mpr hin] at out]
  · rw [h, if_pos (inPlay.mp inside), modifySite_handled, offer_handled, State.handled_runner]
    rfl

/-- The stop test of one condition after a handling at its site (R82, R83). -/
theorem stopTest_handled (i : SiteId) (c : Condition) (e : Effect) (s : State) :
    stopTest [c] i none none (s.handled i e) = s.handled i (e.tested i c s) := by
  have judged : stopTest [c] i none none (s.handled i e) =
      if s.setup.mainframeStop.has c = true then requestPull .ownCondition (s.handled i (e.judged i c s))
      else s.handled i (e.judged i c s) := by
    cases hsite : s.setup.siteStop.has c <;>
      simp [stopTest, hsite, rejectSite_handled_eq, Effect.judged]
  rw [judged, requestPull_handled, Effect.judged_pulls, Effect.tested, ← apply_ite (s.handled i)]
  split
  · rfl
  · rw [← Effect.judged_pulls e i c s]

/-- The effect of the handling of one site's result (R118). -/
def State.handOutEffect (s : State) (c : Search) (i : SiteId) : Effect :=
  if (c.results.get i).isSome then s.handedOut c i else (s.handedOut c i).tested i .searchOpen s

theorem handOutSite_handled (c : Search) (s : State) (i : SiteId) :
    handOutSite c s i = s.handled i (s.handOutEffect c i) := by
  rw [handOutSite_eq, stopTest_handled, State.handOutEffect]
  split <;> rfl

/-- A handed-out result leaves the site's state as it was (R118). -/
theorem State.handedOut_state (s : State) (c : Search) (i : SiteId) :
    (s.handedOut c i).site.state = (s.site i).state := by
  cases hcode : c.results.get i <;> simp [State.handedOut, hcode, Site.handed, Site.withCondition]

theorem State.handOutEffect_list (s : State) (c : Search) (i : SiteId) : (s.handOutEffect c i).list = s.list i := by
  unfold State.handOutEffect
  split
  · rfl
  · exact Effect.judged_list _ _ _ _

/-- An own pull is asked for when the result is absent and the mainframe-stop mask holds SEARCH_OPEN (R83). -/
theorem State.handOutEffect_pulls (s : State) (c : Search) (i : SiteId) : (s.handOutEffect c i).pulls =
    if c.results.get i = none ∧ s.setup.mainframeStop.has .searchOpen = true then [.ownCondition] else [] := by
  cases hcode : c.results.get i <;> simp [State.handOutEffect, hcode, Effect.tested, State.handedOut]

/-- A site with a result, or one that the site-stop mask spares, is not rejected (R82, R118). -/
theorem State.handOutEffect_kept {s : State} {c : Search} {i : SiteId}
    (h : (c.results.get i).isSome = true ∨ ¬ s.rejects .searchOpen (s.site i).state) :
    (s.handOutEffect c i).site = (s.site i).handed c.fields (c.results.get i) ∧
      (s.handOutEffect c i).records = [c.resultRecord i] := by
  rw [← s.handedOut_state c i] at h
  unfold State.handOutEffect
  split
  · exact ⟨rfl, rfl⟩
  · next absent =>
    rw [Effect.tested, Effect.judged_kept (h.resolve_left absent)]
    exact ⟨rfl, rfl⟩

/-- A rejected site, with its record after that of the result (R82, R85). -/
theorem State.handOutEffect_rejected {s : State} {c : Search} {i : SiteId} (hcode : c.results.get i = none)
    (h : s.rejects .searchOpen (s.site i).state) :
    (s.handOutEffect c i).site = { (s.site i).handed c.fields none with
        state := .rejected, reject := some { cause := .searchOpen, step := s.runner.stepIndex } } ∧
      (s.handOutEffect c i).records = [c.resultRecord i, .siteRejected
        { site := i, cause := .searchOpen, step := s.runner.stepIndex, block := none, page := none }] := by
  rw [← s.handedOut_state c i] at h
  rw [State.handOutEffect, hcode, if_neg (by simp), Effect.tested, Effect.judged_rejected h, ← hcode]
  exact ⟨rfl, rfl⟩

/-! ## The stop that a handling brings (R83, R121, R137) -/

/-- The Tie Port after an own pull: the first cause stands, and the pull brings a stop where none is in force
(R136, R137). -/
theorem Tie.pull_ownPull (t : Tie) (c : OwnCause) : (t.pull c).ownPull = some (t.ownPull.getD c) := by
  rcases hpull : t.ownPull with _ | _ <;> rcases hstop : t.stop with _ | _ <;> simp [Tie.pull, hpull, hstop]

theorem Tie.pull_stop (t : Tie) (c : OwnCause) :
    (t.pull c).stop = if t.ownPull.isNone then some (t.stop.getD c.toHalt) else t.stop := by
  rcases hpull : t.ownPull with _ | _ <;> rcases hstop : t.stop with _ | _ <;> simp [Tie.pull, hpull, hstop]

/-- The cause of the stop that the handling of a site's result brings: an absent result under the mainframe-stop mask
pulls STOP, and the pull brings a stop where none is in force (R83, R136, R137). -/
def State.stopOpened (s : State) (c : Search) (i : SiteId) : Option HaltCause :=
  if s.setup.mainframeStop.has .searchOpen && (c.results.get i).isNone && s.tie.ownPull.isNone &&
    s.tie.stop.isNone then some .ownCondition else none

/-- The cause of a stop in force that is still to be reported (R137). -/
def State.newStop (s : State) : Option HaltCause := if s.stopSettled then none else s.tie.stop

/-- A stop that is reported during the handing out is held (R121). -/
theorem takeStop_handOut {s : State} {held : Option HaltCause} (hstate : s.runner.state = .running)
    (hpoint : s.runner.point = .handOut held) (hround : s.newStop = none ∨ s.runner.roundInFlight = false) :
    takeStop s = { s with
      runner := { s.runner with point := .handOut (held <|> s.newStop) }
      tie := { s.tie with reported := s.tie.reported || s.newStop.isSome } } := by
  rcases takeStop_cases s with ⟨settled, e⟩ | ⟨cause, hstop, hnew, e⟩
  · have none : s.newStop = none := if_pos settled
    have same : (held <|> s.newStop) = held := by simp [none]
    rw [e, same, none, ← hpoint, Option.isSome_none, Bool.or_false]
  · have brings : s.newStop = some cause := by simp [State.newStop, State.stopSettled, hstop, hnew]
    have idle : s.runner.roundInFlight = false := hround.resolve_left (by simp [brings])
    rw [e, runnerStop_handOut (s := { s with tie := { s.tie with reported := true } }) hstate idle hpoint, brings,
      orElse_some_eq_getD, Option.isSome_some, Bool.or_true]

/-- The stop to be reported after the handling of a site's result (R83, R137). -/
theorem newStop_handled {s : State} (hsettled : s.stopSettled = true) (c : Search) (i : SiteId) :
    (s.handled i (s.handOutEffect c i)).newStop = s.stopOpened c i := by
  have tie : (s.handled i (s.handOutEffect c i)).tie = (s.handOutEffect c i).pulls.foldl Tie.pull s.tie := rfl
  unfold State.newStop State.stopSettled State.stopOpened at *
  rw [tie, s.handOutEffect_pulls c i]
  by_cases pulls : c.results.get i = none ∧ s.setup.mainframeStop.has .searchOpen = true
  · rw [if_pos pulls]
    obtain ⟨absent, masked⟩ := pulls
    rcases hpull : s.tie.ownPull with _ | _ <;> rcases hstop : s.tie.stop with _ | _ <;>
      simp_all [Tie.pull, OwnCause.toHalt]
  · have noPull : (s.setup.mainframeStop.has .searchOpen && (c.results.get i).isNone) = false := by
      rw [Bool.eq_false_iff, ne_eq, Bool.and_eq_true, Option.isNone_iff_eq_none]
      exact fun ⟨masked, absent⟩ => pulls ⟨absent, masked⟩
    rw [if_neg pulls, List.foldl_nil, if_pos hsettled, noPull]
    rfl

/-! ## One piece of the handing out (R118, R119, R121) -/

/-- The context with a site's handling done. -/
def Search.handing (c : Search) (i : SiteId) : Search := { c with outstanding := c.outstanding.without i }

/-- The Tie Port after the handling of a site's result, the stop that it may bring reported (R83, R137). -/
def State.tieAfter (s : State) (c : Search) (i : SiteId) : Tie :=
  let pulled := (s.handOutEffect c i).pulls.foldl Tie.pull s.tie
  { pulled with reported := pulled.reported || (s.stopOpened c i).isSome }

/-- The state after the handling of one site's result, the stop that it may bring held (R118, R121): all but the causes
of ATTN. -/
structure State.HandsOut (s t : State) (c : Search) (held : Option HaltCause) (i : SiteId) : Prop where
  frame : t = { s with
    sites := s.sites.set i (s.handOutEffect c i).site
    search := some (c.handing i)
    runner := { s.runner with point := .handOut (held <|> s.stopOpened c i) }
    tie := s.tieAfter c i
    log := (offerAll (s.handOutEffect c i).records s).log
    link := { s.link with causes := t.link.causes } }

/-- A piece of the handing out: the handling of the first site whose handling is to come, and then what follows it. -/
theorem advance_handOut {s : State} {c : Search} {held : Option HaltCause} {i : SiteId} {rest : List SiteId}
    (hsearch : s.search = some c) (hpoint : s.runner.point = .handOut held)
    (hfirst : membersInOrder c.outstanding = i :: rest) (hstate : s.runner.state = .running)
    (hsettled : s.stopSettled = true) (hround : s.stopOpened c i = none ∨ s.runner.roundInFlight = false) :
    ∃ u, s.HandsOut u c held i ∧ advance s = handOutOn (c.handing i) u := by
  have piece : advance s = handOutOn (c.handing i)
      (takeStop (handOutSite (c.handing i) { s with search := some (c.handing i) } i)) := by
    simp only [advance, hpoint, handOutNext, hsearch, hfirst, List.head?_cons]
    rfl
  have same : ({ s with search := some (c.handing i) } : State).handOutEffect (c.handing i) i =
      s.handOutEffect c i := rfl
  have brings := newStop_handled (s := { s with search := some (c.handing i) }) hsettled (c.handing i) i
  rw [same] at brings
  have taken := takeStop_handOut (held := held)
    (s := ({ s with search := some (c.handing i) } : State).handled i (s.handOutEffect c i))
    (by simpa using hstate) (by simpa using hpoint) (hround.imp brings.trans (by simpa using ·))
  have lists : s.lists.set i (s.list i) = s.lists := Table.set_get_self s.lists i
  have log : (offerAll (s.handOutEffect c i).records { s with search := some (c.handing i) }).log =
      (offerAll (s.handOutEffect c i).records s).log := offerAll_log_congr _ rfl rfl rfl
  rw [piece, handOutSite_handled, same, taken, brings, State.handled_eq, s.handOutEffect_list c i]
  refine ⟨_, ⟨?_⟩, rfl⟩
  rw [log, lists]
  rfl

/-- What follows a site's handling leaves the Site Table, and the own pull and the stop in force, as they are. -/
theorem handOutOn_frame (d : Search) (u : State) :
    handOutOn d u = { u with
      search := (handOutOn d u).search, runner := (handOutOn d u).runner, tie := (handOutOn d u).tie
      log := (handOutOn d u).log, link := { u.link with causes := (handOutOn d u).link.causes } } ∧
    (handOutOn d u).tie.ownPull = u.tie.ownPull ∧ (handOutOn d u).tie.stop = u.tie.stop := by
  rcases handOutOn_cases d u with ⟨_, e⟩ | ⟨_, e⟩
  · rw [e]
    rcases afterResults_cases d u with ⟨cause, _, e⟩ | ⟨_, _, e⟩ | ⟨_, _, e⟩
    · rw [e, enterHalted_tie]
      refine ⟨?_, rfl, rfl⟩
      conv_lhs => rw [enterHalted_eq]
      rw [enterHalted_runner, enterHalted_eq]
    · rw [e]
      exact ⟨rfl, rfl, rfl⟩
    · rw [e, completeSearch]
      split
      · next c _ =>
        rcases goTo_cases (c.step + c.fields.body + 1) { u with search := none } with ⟨_, e⟩ | ⟨_, e⟩
        · rw [e]
          exact ⟨rfl, rfl, rfl⟩
        · rw [e, enterDone_tie]
          refine ⟨?_, rfl, rfl⟩
          rw [enterDone_eq]
      · exact ⟨rfl, rfl, rfl⟩
  · rw [e]
    exact ⟨rfl, rfl, rfl⟩

/-- While a site's handling is to come the handing out goes on (R118). -/
theorem handOutOn_more {d : Search} (h : d.outstanding ≠ 0) (u : State) : handOutOn d u = u := by
  rcases handOutOn_cases d u with ⟨none, _⟩ | ⟨_, e⟩
  · exact absurd none h
  · exact e

/-- After the last site's handling a held stop halts the runner (R121). -/
theorem handOutOn_halts {d : Search} {u : State} {cause : HaltCause} (h : d.outstanding = 0)
    (hpoint : u.runner.point = .handOut (some cause)) : handOutOn d u = enterHalted (some cause) u := by
  simp [handOutOn, h, afterResults, hpoint]

/-- After the last site's handling, with no stop held and some result present, the final trim round is asked for
(R119). -/
theorem handOutOn_asks {d : Search} {u : State} (h : d.outstanding = 0) (hpoint : u.runner.point = .handOut none)
    (hany : anyResult d = true) :
    handOutOn d u = { u with runner := { u.runner with point := .ask .finalTrim } } := by
  simp [handOutOn, h, afterResults, hpoint, hany]

/-- After the last site's handling, with no stop held and no result present, the search is complete (R119). -/
theorem handOutOn_completes {d : Search} {u : State} (h : d.outstanding = 0) (hpoint : u.runner.point = .handOut none)
    (hany : anyResult d = false) (hsearch : u.search = some d) (hend : d.step + d.fields.body < 255) :
    handOutOn d u = u.searchOver d := by
  have complete : completeSearch u = goTo (d.step + d.fields.body + 1) { u with search := none } := by
    simp [completeSearch, hsearch]
  rw [goTo_of_lt (by omega)] at complete
  rw [State.searchOver, ← complete]
  simp [handOutOn, h, afterResults, hpoint, hany]

theorem anyResult_iff (c : Search) : anyResult c = true ↔ ∃ i, (c.results.get i).isSome = true := by
  simp [anyResult]

/-- The context after the last site's handling. -/
theorem Search.handing_last {c : Search} {i : SiteId} (h : ∀ j, j ≠ i → c.outstanding.has j = false) :
    c.handing i = { c with outstanding := 0 } := by
  have none : c.outstanding.without i = 0 := SiteSet.ext_has fun j => by
    rw [SiteSet.has_without]
    by_cases hj : j = i
    · simp [hj, SiteSet.has_zero]
    · simp [h j hj, SiteSet.has_zero]
  rw [Search.handing, none]

theorem Search.handing_more {c : Search} {i j : SiteId} (hj : j ≠ i) (h : c.outstanding.has j = true) :
    (c.handing i).outstanding ≠ 0 :=
  SiteSet.ne_zero_of_has (i := j) (by simp [Search.handing, SiteSet.has_without, h, hj])

section
variable {s u : State} {c : Search} {held : Option HaltCause} {i : SiteId}

/-- After a piece of the handing out only the one site's record differs, with the drive of the tie lines, the search,
the runner, the log and the causes. -/
theorem State.HandsOut.after (h : s.HandsOut u c held i) :
    let t := handOutOn (c.handing i) u
    t = { s with sites := t.sites, search := t.search, runner := t.runner, tie := t.tie, log := t.log
                 link := { s.link with causes := t.link.causes } } ∧
    (∀ j, j ≠ i → t.site j = s.site j) ∧ t.site i = (s.handOutEffect c i).site ∧
    t.tie.ownPull = (s.tieAfter c i).ownPull ∧ t.tie.stop = (s.tieAfter c i).stop := by
  intro t
  obtain ⟨frame, ownPull, stop⟩ := handOutOn_frame (c.handing i) u
  change t = _ at frame
  obtain ⟨hu⟩ := h
  generalize u.link.causes = causes at hu
  subst hu
  have sites : t.sites = s.sites.set i (s.handOutEffect c i).site := by rw [frame]
  refine ⟨?_, fun j hj => ?_, ?_, ownPull, stop⟩
  · rw [sites]
    exact frame
  · rw [State.site, sites]
    exact Table.get_set_ne _ _ hj.symm
  · rw [State.site, sites]
    exact Table.get_set_self _ _ _

/-- Where no halt and no end of the run follows it, a piece of the handing out offers its site's records only. -/
theorem State.HandsOut.log_after (h : s.HandsOut u c held i)
    (goesOn : ((held <|> s.stopOpened c i) = none ∧ c.step + c.fields.body < 255) ∨
      ∃ j, j ≠ i ∧ c.outstanding.has j = true) :
    (handOutOn (c.handing i) u).log = (offerAll (s.handOutEffect c i).records s).log := by
  obtain ⟨hu⟩ := h
  have log : u.log = (offerAll (s.handOutEffect c i).records s).log := by rw [hu]
  rw [← log]
  by_cases more : (c.handing i).outstanding = 0
  · rcases goesOn with ⟨noStop, hend⟩ | ⟨j, hj, hmore⟩
    · have point : u.runner.point = .handOut none := by rw [hu, noStop]
      cases hany : anyResult (c.handing i) with
      | true => rw [handOutOn_asks more point hany]
      | false => rw [handOutOn_completes more point hany (by rw [hu]) hend]; rfl
    · exact absurd more (Search.handing_more hj hmore)
  · rw [handOutOn_more more]

/-- After the last site's handling a held stop halts the runner, with no final trim round (R18, R121). -/
theorem State.HandsOut.halts (h : s.HandsOut u c held i) (hlast : ∀ j, j ≠ i → c.outstanding.has j = false)
    {x : HaltCause} (hcause : (held <|> s.stopOpened c i) = some x) :
    let t := handOutOn (c.handing i) u
    t.runner = { s.runner with
      state := .halted, pendingPause := false, singleStep := false, point := .rest
      haltCause := some (s.runner.haltCause.getD x) } ∧
    t.search = some { c with outstanding := 0 } ∧ t.hasCause .halted = true ∧
    t.log.frozen = (s.log.frozen || s.setup.freeze) := by
  intro t
  have last := Search.handing_last hlast
  have halted : t = enterHalted (some x) u :=
    handOutOn_halts (congrArg Search.outstanding last) (by rw [h.frame, hcause])
  have frozen : u.log.frozen = s.log.frozen := by rw [h.frame, offerAll_log_frozen]
  rw [halted]
  refine ⟨?_, ?_, enterHalted_hasCause _ _, ?_⟩
  · rw [enterHalted_runner, orElse_some_eq_getD, h.frame]
  · rw [enterHalted_eq, h.frame, last]
  · rw [enterHalted_log, frozen, h.frame]

/-- After the last site's handling, with no stop held and some result present, the final trim round is asked for
(R119). -/
theorem State.HandsOut.asks (h : s.HandsOut u c held i) (hlast : ∀ j, j ≠ i → c.outstanding.has j = false)
    (hcause : (held <|> s.stopOpened c i) = none) (hsome : ∃ j, (c.results.get j).isSome = true) :
    let t := handOutOn (c.handing i) u
    t.runner = { s.runner with point := .ask .finalTrim } ∧ t.search = some { c with outstanding := 0 } := by
  intro t
  have last := Search.handing_last hlast
  have asked : t = { u with runner := { u.runner with point := .ask .finalTrim } } :=
    handOutOn_asks (congrArg Search.outstanding last) (by rw [h.frame, hcause]) ((anyResult_iff _).mpr hsome)
  rw [asked, h.frame, last]
  exact ⟨rfl, rfl⟩

/-- After the last site's handling, with no stop held and no result present, the search is complete (R119). -/
theorem State.HandsOut.completes (h : s.HandsOut u c held i) (hlast : ∀ j, j ≠ i → c.outstanding.has j = false)
    (hcause : (held <|> s.stopOpened c i) = none) (habsent : ∀ j, c.results.get j = none)
    (hend : c.step + c.fields.body < 255) :
    let t := handOutOn (c.handing i) u
    t.runner = { s.runner with stepIndex := c.step + c.fields.body + 1, point := .boundary } ∧ t.search = none := by
  intro t
  have last := Search.handing_last hlast
  have nonePresent : anyResult (c.handing i) = false := by
    rw [Bool.eq_false_iff, ne_eq, anyResult_iff]
    exact fun ⟨j, hj⟩ => by simp [Search.handing, habsent j] at hj
  have complete : t = u.searchOver (c.handing i) :=
    handOutOn_completes (congrArg Search.outstanding last) (by rw [h.frame, hcause]) nonePresent (by rw [h.frame]) hend
  rw [complete, h.frame]
  exact ⟨rfl, rfl⟩

end

/-- An absent result under the mainframe-stop mask pulls STOP (R83, R136, R137). -/
theorem State.tieAfter_pulled {s : State} {c : Search} {i : SiteId} (hcode : c.results.get i = none)
    (hmask : s.setup.mainframeStop.has .searchOpen = true) :
    (s.tieAfter c i).ownPull = some (s.tie.ownPull.getD .ownCondition) ∧
      (s.tieAfter c i).stop =
        if s.tie.ownPull.isNone then some (s.tie.stop.getD .ownCondition) else s.tie.stop := by
  rw [State.tieAfter, s.handOutEffect_pulls, if_pos ⟨hcode, hmask⟩]
  exact ⟨Tie.pull_ownPull _ _, Tie.pull_stop _ _⟩

/-- Any other result leaves the own pull and the stop in force as they are. -/
theorem State.tieAfter_kept {s : State} {c : Search} {i : SiteId}
    (h : ¬ (c.results.get i = none ∧ s.setup.mainframeStop.has .searchOpen = true)) :
    (s.tieAfter c i).ownPull = s.tie.ownPull ∧ (s.tieAfter c i).stop = s.tie.stop := by
  rw [State.tieAfter, s.handOutEffect_pulls, if_neg h]
  exact ⟨rfl, rfl⟩

/-! ## The whole handing out, with SEARCH_OPEN in neither mask (R118, R119) -/

/-- The state after the handling of one site's result without a stop test, with some causes of ATTN (R118). -/
def State.handedOne (s : State) (c : Search) (i : SiteId) (causes : BitVec 5) : State :=
  { s with
    sites := s.sites.set i ((s.site i).handed c.fields (c.results.get i)), search := some (c.handing i)
    log := (offer (c.resultRecord i) s).log, link := { s.link with causes := causes } }

/-- One piece with SEARCH_OPEN in neither mask and no stop in force: the site's record, its SEARCH_RESULT, and no
more. -/
theorem advance_handOut_unmasked {s : State} {c : Search} {i : SiteId} {rest : List SiteId}
    (hsearch : s.search = some c) (hpoint : s.runner.point = .handOut none)
    (hfirst : membersInOrder c.outstanding = i :: rest) (hstate : s.runner.state = .running)
    (hstop : s.tie.stop = none) (hunmasked : s.unmasked .searchOpen) :
    ∃ causes, advance s = handOutOn (c.handing i) (s.handedOne c i causes) := by
  have noStop : s.stopOpened c i = none := by simp [State.stopOpened, hunmasked.2]
  have noPull : (s.handOutEffect c i).pulls = [] := by simp [s.handOutEffect_pulls, hunmasked.2]
  have tie : s.tieAfter c i = s.tie := by simp [State.tieAfter, noPull, noStop]
  obtain ⟨site, records⟩ := State.handOutEffect_kept (s := s) (c := c) (i := i)
    (.inr fun rejects => absurd rejects.1 (by simp [hunmasked.1]))
  obtain ⟨u, ⟨hu⟩, piece⟩ := advance_handOut hsearch hpoint hfirst hstate (by simp [State.stopSettled, hstop])
    (.inl noStop)
  rw [site, records, tie, noStop, show ((none : Option HaltCause) <|> none) = none from rfl, ← hpoint] at hu
  rw [piece, hu]
  exact ⟨_, rfl⟩

/-- The state after the whole handing out to some sites in order, the final trim round asked for, with some causes of
ATTN (R118, R119). -/
def State.allHandedOut (s : State) (c : Search) (sites : List SiteId) (causes : BitVec 5) : State :=
  { s with
    sites := Table.ofFn fun i => if i ∈ sites then (s.site i).handed c.fields (c.results.get i) else s.site i
    search := some { c with outstanding := 0 }
    runner := { s.runner with point := .ask .finalTrim }
    log := (offerAll (sites.map c.resultRecord) s).log
    link := { s.link with causes := causes } }

theorem State.allHandedOut_site (s : State) (c : Search) (sites : List SiteId) (causes : BitVec 5) (i : SiteId) :
    (s.allHandedOut c sites causes).site i =
      if i ∈ sites then (s.site i).handed c.fields (c.results.get i) else s.site i := Table.get_ofFn _ _

theorem State.allHandedOut_nil (s : State) (c : Search) : s.allHandedOut c [] s.link.causes =
    { s with search := some { c with outstanding := 0 }, runner := { s.runner with point := .ask .finalTrim } } := by
  have sites : (Table.ofFn fun i => s.site i) = s.sites := Table.ext_get fun i => Table.get_ofFn _ i
  simp only [State.allHandedOut, List.not_mem_nil, if_false, sites]
  rfl

/-- Handing out to a site and then to others is handing out to all of them. -/
theorem State.allHandedOut_handedOne {i : SiteId} {rest : List SiteId} (h : i ∉ rest) (s : State) (c : Search)
    (causes last : BitVec 5) :
    (s.handedOne c i causes).allHandedOut (c.handing i) rest last = s.allHandedOut c (i :: rest) last := by
  have log : (offerAll (rest.map (c.handing i).resultRecord) (s.handedOne c i causes)).log =
      (offerAll ((i :: rest).map c.resultRecord) s).log :=
    offerAll_log_congr (rest.map c.resultRecord) (t := offer (c.resultRecord i) s) rfl (by simp [State.handedOne])
      (by simp [State.handedOne])
  have site (j : SiteId) : (if j ∈ rest then ((s.handedOne c i causes).site j).handed c.fields (c.results.get j)
      else (s.handedOne c i causes).site j) =
      if j ∈ i :: rest then (s.site j).handed c.fields (c.results.get j) else s.site j := by
    by_cases hj : j = i
    · subst hj
      rw [if_neg h, if_pos List.mem_cons_self]
      exact Table.get_set_self _ _ _
    · have same : (s.handedOne c i causes).site j = s.site j := Table.get_set_ne _ _ (Ne.symm hj)
      simp [same, hj]
  rw [State.allHandedOut, log]
  exact congrArg (fun f => { s.allHandedOut c (i :: rest) last with sites := Table.ofFn f }) (funext site)

/-- As many pieces as there are sites hand out all results, some of them present (R118, R119). -/
theorem iterate_advance_handOut {s : State} {c : Search} {i : SiteId} {rest : List SiteId}
    (hsearch : s.search = some c) (hpoint : s.runner.point = .handOut none)
    (hfirst : membersInOrder c.outstanding = i :: rest) (hstate : s.runner.state = .running)
    (hstop : s.tie.stop = none) (hunmasked : s.unmasked .searchOpen) (hany : anyResult c = true) :
    ∃ causes, Nat.iterate advance (i :: rest).length s = s.allHandedOut c (i :: rest) causes := by
  induction rest generalizing s c i with
  | nil =>
    obtain ⟨causes, piece⟩ := advance_handOut_unmasked hsearch hpoint hfirst hstate hstop hunmasked
    have last : (c.handing i).outstanding = 0 := membersInOrder_eq_nil_iff.mp (membersInOrder_without hfirst)
    have asks := handOutOn_asks (u := s.handedOne c i causes) last hpoint hany
    have all := (s.handedOne c i causes).allHandedOut_nil (c.handing i)
    rw [State.allHandedOut_handedOne List.not_mem_nil] at all
    refine ⟨_, (piece.trans asks).trans (Eq.trans ?_ all.symm)⟩
    rw [← last]
    rfl
  | cons j rest ih =>
    obtain ⟨causes, piece⟩ := advance_handOut_unmasked hsearch hpoint hfirst hstate hstop hunmasked
    have others : membersInOrder (c.handing i).outstanding = j :: rest := membersInOrder_without hfirst
    have more : (c.handing i).outstanding ≠ 0 := fun none => by simp [membersInOrder_eq_nil_iff.mpr none] at others
    rw [handOutOn_more more] at piece
    obtain ⟨last, all⟩ := ih (s := s.handedOne c i causes) rfl hpoint others hstate hstop hunmasked hany
    rw [List.length_cons, Function.iterate_succ_apply, piece, all,
      State.allHandedOut_handedOne (membersInOrder_head_not_mem hfirst)]
    exact ⟨last, rfl⟩

/-! ## The handing out from the close of the last trial (R112, R115 to R119) -/

/-- The context at the end of the trials of SITE scope, by the sites' values and codes. -/
theorem Search.concluded_eq {c : Search} {s : State} {value : SiteId → Nat} {code : SiteId → Option Nat}
    (hvalue : ∀ i, (c.siteJudged s).values.get i = value i) (hcode : ∀ i, resultCode (c.siteJudged s) i s = code i) :
    c.concluded s = { c with
      phase := .final, values := Table.ofFn value, outstanding := c.members
      results := Table.ofFn fun i => if c.members.has i then code i else none } := by
  have values : (c.siteJudged s).values = Table.ofFn value :=
    Table.ext_get fun i => (hvalue i).trans (Table.get_ofFn _ i).symm
  simp only [Search.concluded, values, hcode]

/-- The result of a site of SITE scope by its value and its flag (R116). -/
theorem resultCode_site {c : Search} (hscope : c.fields.scope = .site) (i : SiteId) (s : State) :
    resultCode c i s =
      if c.values.get i = 2 ^ c.fields.bits - 1 ∧ (s.site i).trialFailed = true then none
      else some (if c.fields.polarity = .ascending then c.values.get i
        else 2 ^ c.fields.bits - 1 - c.values.get i) := by
  have value : c.valueOf i = c.values.get i := if_pos hscope
  have failed : c.extraVerdict i s = .fail ↔ (s.site i).trialFailed = true := by
    rw [Search.extraVerdict_eq_fail_iff, if_pos hscope]
  simp only [resultCode_eq, value, failed, codeOf_eq]

/-- The close of the last trial and the whole handing out, with SEARCH_OPEN in neither mask, no stop in force and some
result present (R112, R118, R119). -/
theorem iterate_advance_close {s : State} {c : Search} (hpoint : s.runner.point = .close)
    (hstate : s.runner.state = .running) (hmembers : c.members ≠ 0) {causes : BitVec 5}
    (hclose : closeTrial s = s.closedLast c causes) (hstop : s.tie.stop = none) (hunmasked : s.unmasked .searchOpen)
    (hany : anyResult (c.concluded s) = true) :
    ∃ last, Nat.iterate advance (1 + (membersInOrder c.members).length) s =
      (s.closedLast c causes).allHandedOut (c.concluded s) (membersInOrder c.members) last := by
  obtain ⟨i, rest, hfirst⟩ := List.exists_cons_of_ne_nil fun none => hmembers (membersInOrder_eq_nil_iff.mp none)
  obtain ⟨last, all⟩ := iterate_advance_handOut (s := s.closedLast c causes) (c := c.concluded s) rfl rfl hfirst hstate
    hstop hunmasked hany
  have close : advance s = s.closedLast c causes := by
    rw [advance, hpoint]
    exact hclose
  rw [Nat.add_comm, Function.iterate_succ_apply, close, hfirst]
  exact ⟨last, all⟩

/-- The log after the close of the last trial and the whole handing out (R115, R118). -/
theorem State.closedLast_allHandedOut_log (s : State) (c : Search) (sites : List SiteId) (causes last : BitVec 5) :
    ((s.closedLast c causes).allHandedOut (c.concluded s) sites last).log =
      (offerAll (sites.map (c.concluded s).resultRecord) (offerAll (c.trialRecords s) s)).log :=
  offerAll_log_congr _ rfl (by simp [State.closedLast, State.handingOut])
    (by simp [State.closedLast, State.handingOut])

end Sys2Proof.Machine

open Sys2Proof Sys2Proof.Machine

/-- Settles O60: the value found, the results formed from it, the close of the last trial with the whole handing out,
and one piece of the handing out. -/
theorem searchFindsTheBoundary : Obligations.SearchFindsTheBoundary := by
  refine ⟨fun bits b => valueOfTrials_all bits b, finalTrim_eq, fun c i s => ?_, ?_, ?_⟩
  · intro top value failed
    have absent : c.valueOf i = top ∧ c.extraVerdict i s = .fail ↔ value = top ∧ failed :=
      and_congr .rfl (c.extraVerdict_eq_fail_iff i s)
    rw [resultCode_eq, codeOf_eq]
    exact ⟨fun htop hfailed => if_pos (absent.mpr ⟨htop, hfailed⟩),
      fun present => if_neg fun h => present (absent.mp h)⟩
  · intro s c hpending hstate hpoint hroom hsearch hscope hmembers top value code hlast
    have hvalue (i) : (c.siteJudged s).values.get i = value i := c.siteJudged_value s i
    have hcode (i) : resultCode (c.siteJudged s) i s = code i := by
      rw [resultCode_site (c := c.siteJudged s) hscope, hvalue]
      rfl
    obtain ⟨causes, hclose⟩ := closeTrial_last hroom hsearch hscope hmembers (by simpa only [hvalue] using hlast)
    have concluded := Search.concluded_eq hvalue hcode
    refine ⟨⟨_, (step_of_close hpending hstate hpoint).trans (congrArg Host.Outcome.next hclose), ?_, ?_⟩,
      fun hstop hunmasked hsome => ?_⟩
    · rw [State.closedLast, concluded]
      rfl
    · rw [State.closedLast, Search.trialRecords, offerAll_map]
      rfl
    · intro t
      have result {i} (hi : c.members.has i = true) : (c.concluded s).results.get i = code i := by simp [concluded, hi]
      have hany : anyResult (c.concluded s) = true :=
        (anyResult_iff _).mpr (hsome.imp fun i ⟨hi, present⟩ => (result hi).symm ▸ present)
      obtain ⟨last, all⟩ := iterate_advance_close hpoint hstate hmembers hclose hstop hunmasked hany
      change t = _ at all
      have site (i) := (s.closedLast c causes).allHandedOut_site (c.concluded s) (membersInOrder c.members) last i
      simp only [← all, mem_membersInOrder] at site
      have log := s.closedLast_allHandedOut_log c (membersInOrder c.members) causes last
      rw [← all] at log
      refine ⟨?_, fun i hi => ?_, fun i hi absent => ?_, fun i k hi present => ?_, fun hfrozen => ?_, ?_⟩
      · rw [all, concluded]
        rfl
      · rw [site, if_neg (by simp [hi])]
        rfl
      · rw [site, if_pos hi, result hi, absent]
        rfl
      · rw [site, if_pos hi, result hi, present]
        rfl
      · rw [log, offerAll_of_frozen (c.trialRecords s) hfrozen, offerAll_of_frozen _ hfrozen]
      · have records : (membersInOrder c.members).map (c.concluded s).resultRecord =
            (membersInOrder c.members).map fun i => .searchResult
              { site := i, step := c.step, scope := .site, code := code i, trim := (code i).map (finalTrim c.fields)
                trials := if value i = top then c.fields.bits + 1 else c.fields.bits } := by
          refine List.map_congr_left fun i hi => ?_
          have valueOf : (c.concluded s).valueOf i = value i := (if_pos hscope).trans (hvalue i)
          rw [Search.resultRecord, trialCount_eq, valueOf, result (mem_membersInOrder.mp hi), ← hscope]
          rfl
        rw [log, records, offerAll_map, Search.trialRecords, offerAll_map]
        rfl
  · intro s c held i hpending hstate hpoint hsearch hi hleast hsettled hround code value recorded rejects raised stops
      cause
    obtain ⟨rest, hfirst⟩ := membersInOrder_of_least hi hleast
    obtain ⟨u, hu, piece⟩ := advance_handOut hsearch hpoint hfirst hstate hsettled (.inr hround)
    have hrecorded : recorded = offer (c.resultRecord i) s := by
      simp only [recorded, Search.resultRecord, trialCount_eq]
      rfl
    have kept := State.handOutEffect_kept (s := s) (c := c) (i := i)
    have rejected := State.handOutEffect_rejected (s := s) (c := c) (i := i)
    obtain ⟨frame, others, site, ownPull, stop⟩ := hu.after
    refine ⟨_, (step_of_busy hpending (by simp [State.busy, hstate, hpoint])).trans (congrArg Host.Outcome.next piece),
      frame, others, fun k hcode => ?_, fun hcode spared => ?_, fun hcode hrejects => ?_, fun ⟨hcode, hmask⟩ => ?_,
      fun hstops => ?_, fun j hj hmore => ?_, fun goesOn => ⟨fun spared => ?_, fun hcode hrejects => ?_⟩,
      fun hlast => ?_⟩
    · rw [site, (kept (.inl (Option.isSome_iff_exists.mpr ⟨k, hcode⟩))).1, show c.results.get i = some k from hcode]
      rfl
    · rw [site, (kept (.inr spared)).1, show c.results.get i = none from hcode]
      rfl
    · rw [site, (rejected hcode hrejects).1]
      rfl
    · rw [ownPull, stop]
      exact State.tieAfter_pulled hcode hmask
    · rw [ownPull, stop]
      exact State.tieAfter_kept hstops
    · rw [handOutOn_more (Search.handing_more hj hmore), hu.frame]
      exact ⟨rfl, rfl⟩
    · rw [hu.log_after goesOn, (kept spared).2, hrecorded]
      rfl
    · rw [hu.log_after goesOn, (rejected hcode hrejects).2, hrecorded]
      rfl
    · exact ⟨fun _ => hu.halts hlast, hu.asks hlast, hu.completes hlast⟩
end

section
/-! SUPPORT. What the runner's work, the stops, the events and the requests leave alone in the Bad-Block Lists and in
Setup: every operation that lists no block and writes neither of them, as an equation before and after. -/
namespace Sys2Proof.Machine

/-- What the soundness of the lists looks at: the lists themselves, and Setup with the L that bounds them (R94, R96). -/
def State.listStore (s : State) : PerSite (List Entry) × Setup := (s.lists, s.setup)

theorem State.listStore_congr {s t : State} (lists : t.lists = s.lists) (setup : t.setup = s.setup) :
    t.listStore = s.listStore := by rw [State.listStore, lists, setup, State.listStore]

/-- What an operation answers may be looked at through an equation for its answer. -/
theorem State.listStore_of_eq {s t u : State} (h : t = u) (kept : u.listStore = s.listStore) :
    t.listStore = s.listStore := h ▸ kept

/-! ## The log, halts, stops and own pulls -/

@[simp] theorem offer_listStore (b : RecordBody) (s : State) : (offer b s).listStore = s.listStore :=
  State.listStore_congr (offer_lists b s) (offer_setup b s)

@[simp] theorem enterHalted_listStore (cause : Option HaltCause) (s : State) :
    (enterHalted cause s).listStore = s.listStore := State.listStore_of_eq (enterHalted_changes cause s) rfl

@[simp] theorem enterDone_listStore (way : EndWay) (s : State) : (enterDone way s).listStore = s.listStore :=
  State.listStore_of_eq (enterDone_changes way s) rfl

@[simp] theorem requestPull_listStore (c : OwnCause) (s : State) : (requestPull c s).listStore = s.listStore :=
  State.listStore_of_eq (requestPull_eq c s) rfl

@[simp] theorem runnerStop_listStore (cause : HaltCause) (s : State) :
    (runnerStop cause s).listStore = s.listStore := by
  obtain ⟨_, _, _, _, _, stopped⟩ := runnerStop_frame cause s
  exact State.listStore_of_eq stopped rfl

@[simp] theorem takeStop_listStore (s : State) : (takeStop s).listStore = s.listStore := by
  rcases takeStop_cases s with ⟨_, kept⟩ | ⟨_, _, _, taken⟩
  · rw [kept]
  · exact State.listStore_of_eq taken (runnerStop_listStore _ _)

/-! ## The end of steps, rounds and searches (R13, R29, R56, R119) -/

@[simp] theorem goTo_listStore (index : Nat) (s : State) : (goTo index s).listStore = s.listStore := by
  rcases goTo_cases index s with ⟨_, h⟩ | ⟨_, h⟩
  · exact State.listStore_of_eq h rfl
  · rw [h, enterDone_listStore]

@[simp] theorem completeStep_listStore (s : State) : (completeStep s).listStore = s.listStore := goTo_listStore _ s

@[simp] theorem workDone_listStore (s : State) : (workDone s).listStore = s.listStore := by
  unfold workDone
  split
  · split
    · split <;> rfl
    · exact completeStep_listStore s
  · exact completeStep_listStore s

@[simp] theorem completeSearch_listStore (s : State) : (completeSearch s).listStore = s.listStore := by
  unfold completeSearch
  split
  · exact goTo_listStore _ _
  · rfl

@[simp] theorem sweepRoundEnded_listStore (s : State) : (sweepRoundEnded s).listStore = s.listStore := by
  unfold sweepRoundEnded
  split
  · split
    · rfl
    · exact workDone_listStore _
  · exact workDone_listStore s

@[simp] theorem afterRound_listStore (a : Ask) (s : State) : (afterRound a s).listStore = s.listStore := by
  cases a with
  | sweep => exact sweepRoundEnded_listStore s
  | poll => exact workDone_listStore s
  | trim => exact workDone_listStore s
  | trialCode => rfl
  | finalTrim => exact completeSearch_listStore s

@[simp] theorem endRoundIfDone_listStore (s : State) : (endRoundIfDone s).listStore = s.listStore := by
  have ended : (endRound s).listStore = s.listStore := by
    rcases endRound_cases s with ⟨_, h⟩ | ⟨_, a, _, h⟩ | ⟨_, _, h⟩
    · exact State.listStore_of_eq h (enterHalted_listStore _ _)
    · exact State.listStore_of_eq h (afterRound_listStore a _)
    · exact State.listStore_of_eq h rfl
  rcases endRoundIfDone_cases s with ⟨_, _, h⟩ | ⟨_, h⟩
  · rw [h, ended]
  · rw [h]

/-! ## The handling of site events that list no block (R81, R86, R118) -/

/-- A handling leaves Setup alone, so that it is only asked of the lists. -/
theorem HandlingFrame.listStore {s t : State} (h : HandlingFrame s t) (lists : t.lists = s.lists) :
    t.listStore = s.listStore := State.listStore_congr lists (by rw [h.frame])

@[simp] theorem stopTest_listStore (raised : List Condition) (i : SiteId) (block page : Option Nat) (s : State) :
    (stopTest raised i block page s).listStore = s.listStore := by
  have rejected (c : Condition) : (rejectSite c i block page s).listStore = s.listStore :=
    (rejectSite_handling c i block page s).listStore (rejectSite_lists c i block page s)
  unfold stopTest
  dsimp only
  split <;> split <;> simp [rejected]

@[simp] theorem filterAction_listStore (a : Action) (i : SiteId) (block page : Option Nat) (s : State) :
    (filterAction a i block page s).listStore = s.listStore := by
  cases a with
  | ignore => rfl
  | log => rfl
  | rejectSite => exact (filterAction_handling _ i block page s).listStore (rejectSite_lists _ i block page _)
  | stopAll => exact requestPull_listStore _ _

@[simp] theorem updateTotals_listStore (i : SiteId) (e : SiteEvent) (p : Position) (s : State) :
    (updateTotals i e p s).listStore = s.listStore := by
  cases e <;> rfl

@[simp] theorem trialEvent_listStore (i : SiteId) (c : Condition) (s : State) :
    (trialEvent i c s).listStore = s.listStore := by
  rcases trialEvent_cases i c s with dropped | flagged
  · rw [dropped]
  · exact State.listStore_of_eq flagged rfl

@[simp] theorem handleTrial_listStore (i : SiteId) (e : SiteEvent) (p : Position) (f : Option (Fin 4)) (s : State) :
    (handleTrial i e p f s).listStore = s.listStore := by
  unfold handleTrial
  dsimp only
  split <;> simp

@[simp] theorem handleTimeout_listStore (i : SiteId) (block page : Option Nat) (trial : Bool) (s : State) :
    (handleTimeout i block page trial s).listStore = s.listStore := by
  unfold handleTimeout
  split
  · exact trialEvent_listStore i _ s
  · exact stopTest_listStore _ i block page _

@[simp] theorem handOutSite_listStore (c : Search) (s : State) (i : SiteId) :
    (handOutSite c s i).listStore = s.listStore := by
  unfold handOutSite
  dsimp only
  split
  · exact offer_listStore _ _
  · exact (stopTest_listStore _ i none none _).trans (offer_listStore _ _)

@[simp] theorem endPart_listStore (i : SiteId) (s : State) : (endPart i s).listStore = s.listStore :=
  (endRoundIfDone_listStore _).trans (takeStop_listStore s)

/-! ## The handing out of results, trials and barriers (R16, R112 to R119, R131 to R133) -/

@[simp] theorem afterResults_listStore (c : Search) (s : State) : (afterResults c s).listStore = s.listStore := by
  rcases afterResults_cases c s with ⟨_, _, h⟩ | ⟨_, _, h⟩ | ⟨_, _, h⟩
  · rw [h, enterHalted_listStore]
  · exact State.listStore_of_eq h rfl
  · rw [h, completeSearch_listStore]

@[simp] theorem handOutOn_listStore (c : Search) (s : State) : (handOutOn c s).listStore = s.listStore := by
  rcases handOutOn_cases c s with ⟨_, h⟩ | ⟨_, h⟩
  · rw [h, afterResults_listStore]
  · rw [h]

@[simp] theorem handOutNext_listStore (s : State) : (handOutNext s).listStore = s.listStore := by
  unfold handOutNext
  split
  · split
    · dsimp only
      rw [handOutOn_listStore, takeStop_listStore, handOutSite_listStore]
      rfl
    · exact afterResults_listStore _ s
  · rfl

@[simp] theorem decideNext_listStore (c : Search) (s : State) : (decideNext c s).listStore = s.listStore := by
  have finished (d : Search) : (finishTrials d s).listStore = s.listStore := handOutOn_listStore _ _
  unfold decideNext
  split
  · rfl
  · split
    · split
      · split
        · exact finished c
        · rfl
      · split
        · rfl
        · exact finished c
    · exact finished c

@[simp] theorem trialPassed_listStore (combined : Verdict) (barrier : Nat) (s : State) :
    (trialPassed combined barrier s).listStore = s.listStore := by
  unfold trialPassed
  split
  · dsimp only
    rw [decideNext_listStore, offer_listStore]
    rfl
  · rfl

@[simp] theorem passBarrier_listStore (w : Wait) (sampled : Verdict) (waited : Nat) (s : State) :
    (passBarrier w sampled waited s).listStore = s.listStore := by
  have passed : (s.passed w sampled waited).listStore = s.listStore := State.listStore_of_eq (State.passed_eq ..) rfl
  rw [passBarrier_eq, ← passed]
  cases w.kind with
  | start => rfl
  | rendezvous => exact workDone_listStore _
  | trial => exact trialPassed_listStore _ _ _

@[simp] theorem arrive_listStore (kind : BarrierKind) (vote : Option Verdict) (s : State) :
    (arrive kind vote s).listStore = s.listStore := by
  rcases arrive_cases kind vote s with ⟨_, h⟩ | ⟨_, h⟩
  · exact State.listStore_of_eq h rfl
  · exact State.listStore_of_eq h (passBarrier_listStore _ _ _ _)

@[simp] theorem closeTrial_listStore (s : State) : (closeTrial s).listStore = s.listStore := by
  unfold closeTrial
  split
  · rfl
  · split
    · split
      · rw [closeSiteTrial, decideNext_listStore, foldl_offerTrialResult_frame]
        rfl
      · exact arrive_listStore _ _ _
    · rfl

/-! ## Steps, boundaries and the forming of rounds (R11, R13, R15, R42, R43) -/

@[simp] theorem stepWork_listStore (s : State) : (stepWork s).listStore = s.listStore := by
  unfold stepWork
  split
  · next step _ =>
    cases step.body with
    | endStep => exact enterDone_listStore _ s
    | sweep f => rfl
    | poll mask expected count deadline => rfl
    | trim address source => rfl
    | search f => rfl
    | rendezvous => exact arrive_listStore _ _ s
    | repeatStep span count =>
      unfold repeatWork
      dsimp only
      split
      · exact completeStep_listStore _
      · rfl
    | marker => exact (workDone_listStore _).trans (offer_listStore _ s)
  · rfl

@[simp] theorem boundary_listStore (s : State) : (boundary s).listStore = s.listStore := by
  rcases boundary_cases s with ⟨_, h⟩ | ⟨_, _, h⟩ | ⟨_, _, _, _, h⟩ | ⟨_, _, _, h⟩
  · exact State.listStore_of_eq h rfl
  · exact State.listStore_of_eq h rfl
  · rw [h, enterHalted_listStore]
  · exact State.listStore_of_eq h rfl

@[simp] theorem formRound_listStore (a : Ask) (w : RoundWork) (admits : SiteId → Bool) (s : State) :
    (formRound a w admits s).listStore = s.listStore := endRoundIfDone_listStore (s.formed a w admits)

@[simp] theorem requestSweepRound_listStore (s : State) : (requestSweepRound s).listStore = s.listStore := by
  unfold requestSweepRound
  split
  · split
    · exact formRound_listStore _ _ _ _
    · rfl
  · rfl

@[simp] theorem askRound_listStore (a : Ask) (s : State) : (askRound a s).listStore = s.listStore := by
  unfold askRound requestRound
  split
  · rfl
  · split
    · exact requestSweepRound_listStore s
    all_goals
      split
      · exact formRound_listStore _ _ _ s
      · rfl

@[simp] theorem beginStep_listStore (s : State) : (beginStep s).listStore = s.listStore := by
  unfold beginStep
  dsimp only
  split
  · next step _ =>
    have noted : (if step.note then offer (.stepBegin s.runner.stepIndex step.label) (clearCurrent s)
        else clearCurrent s).listStore = s.listStore := by
      split
      · exact offer_listStore _ _
      · rfl
    split
    · split
      · exact noted
      · rw [stepWork_listStore, noted]
    · rw [stepWork_listStore, noted]
  · rfl

/-- A piece of the runner's work lists no block (log entry 39). -/
@[simp] theorem advance_listStore (s : State) : (advance s).listStore = s.listStore := by
  unfold advance
  split
  · exact boundary_listStore s
  · exact beginStep_listStore s
  · exact stepWork_listStore s
  · exact askRound_listStore _ s
  · exact closeTrial_listStore s
  · exact handOutNext_listStore s
  all_goals rfl

@[simp] theorem settle_listStore (s : State) : (settle s).listStore = s.listStore :=
  settle_induction (P := fun t => t.listStore = s.listStore) (fun t kept _ => (advance_listStore t).trans kept) rfl

/-! ## Events of the ports, the bus and the link -/

@[simp] theorem endDiscarded_listStore (i : SiteId) (s : State) : (endDiscarded i s).listStore = s.listStore :=
  State.listStore_of_eq (endDiscarded_eq i s) rfl

@[simp] theorem discardedEnd_listStore (i : SiteId) (s : State) : (discardedEnd i s).listStore = s.listStore := by
  unfold discardedEnd
  split
  · exact endDiscarded_listStore i s
  · rfl

@[simp] theorem issueEvent_listStore (i : SiteId) (s : State) : (issueEvent i s).listStore = s.listStore := by
  unfold issueEvent
  split
  · exact endDiscarded_listStore i s
  · rw [← settle_listStore s]
    unfold issueSettled issueLive
    split
    · split
      · dsimp only
        split
        · exact endPart_listStore i _
        · rfl
      · rfl
    · rfl

@[simp] theorem pollExpiry_listStore (i : SiteId) (s : State) : (pollExpiry i s).listStore = s.listStore := by
  unfold pollExpiry
  split
  · dsimp only
    split <;> rfl
  · rfl

@[simp] theorem deadlineEvent_listStore (i : SiteId) (s : State) : (deadlineEvent i s).listStore = s.listStore := by
  unfold deadlineEvent
  split
  · split
    · exact (endPart_listStore i _).trans (handleTimeout_listStore i _ _ _ _)
    · rfl
  · rfl

@[simp] theorem readByteEvent_listStore (i : SiteId) (byte : Byte) (s : State) :
    (readByteEvent i byte s).listStore = s.listStore := by
  unfold readByteEvent
  split
  · split <;> rfl
  · rfl

@[simp] theorem barrierEvent_listStore (peerVeto : Bool) (s : State) :
    (barrierEvent peerVeto s).listStore = s.listStore := by
  unfold barrierEvent
  split
  · split
    · exact passBarrier_listStore _ _ _ s
    · rfl
  · rfl

@[simp] theorem timeoutEvent_listStore (s : State) : (timeoutEvent s).listStore = s.listStore := by
  unfold timeoutEvent
  split
  · rw [takeStop_listStore, requestPull_listStore]
  · rfl

@[simp] theorem stopFallEvent_listStore (s : State) : (stopFallEvent s).listStore = s.listStore := by
  unfold stopFallEvent
  split
  · rfl
  · exact takeStop_listStore _

@[simp] theorem stopRiseEvent_listStore (s : State) : (stopRiseEvent s).listStore = s.listStore := by
  unfold stopRiseEvent
  split <;> rfl

@[simp] theorem tick_listStore (s : State) : (tick s).listStore = s.listStore :=
  State.listStore_of_eq (tick_frame s) rfl

@[simp] theorem intervalEvent_listStore (ticks : Nat) (s : State) :
    (intervalEvent ticks s).listStore = s.listStore := by
  unfold intervalEvent
  split
  · split <;> rfl
  · rfl

@[simp] theorem idleEvent_listStore (s : State) : (idleEvent s).listStore = s.listStore := by
  unfold idleEvent
  split <;> rfl

@[simp] theorem settlingEndEvent_listStore (s : State) : (settlingEndEvent s).listStore = s.listStore := by
  unfold settlingEndEvent
  split <;> rfl

@[simp] theorem settlingEdgeEvent_listStore (s : State) : (settlingEdgeEvent s).listStore = s.listStore := by
  unfold settlingEdgeEvent
  split <;> rfl

@[simp] theorem breakEvent_listStore (s : State) : (breakEvent s).listStore = s.listStore := by
  unfold breakEvent
  split <;> rfl

@[simp] theorem framingErrorEvent_listStore (s : State) : (framingErrorEvent s).listStore = s.listStore := by
  unfold framingErrorEvent
  split <;> rfl

/-! ## Requests of the link (R10, R19 to R23, R89 to R91, R128, R150, R164 to R170) -/

@[simp] theorem startRequest_listStore (s : State) : (startRequest s).listStore = s.listStore := by
  unfold startRequest
  split
  · split
    · rfl
    · split
      · rfl
      · exact (arrive_listStore _ _ _).trans (offer_listStore _ _)
  · rfl

@[simp] theorem pauseRequest_listStore (s : State) : (pauseRequest s).listStore = s.listStore := by
  unfold pauseRequest
  split <;> rfl

@[simp] theorem stepRequest_listStore (s : State) : (stepRequest s).listStore = s.listStore := by
  unfold stepRequest
  split <;> rfl

@[simp] theorem resumeRequest_listStore (s : State) : (resumeRequest s).listStore = s.listStore := by
  unfold resumeRequest
  split <;> rfl

@[simp] theorem abortRequest_listStore (s : State) : (abortRequest s).listStore = s.listStore := by
  unfold abortRequest
  split <;> rfl

@[simp] theorem stopAllRequest_listStore (s : State) : (stopAllRequest s).listStore = s.listStore := by
  rw [stopAllRequest, takeStop_listStore, requestPull_listStore]
  rfl

@[simp] theorem disableSite_listStore (i : SiteId) (s : State) : (disableSite i s).listStore = s.listStore := by
  unfold disableSite
  dsimp only
  split <;> rfl

@[simp] theorem applyCfgWord_listStore (quiet : Bool) (i : Nat) (w : Word) (s : State) :
    (applyCfgWord quiet i w s).listStore = s.listStore := by
  unfold applyCfgWord
  split
  · split
    · split <;> rfl
    · exact disableSite_listStore _ s
  · rfl

@[simp] theorem applyCfg_listStore (quiet : Bool) (index : Nat) (words : List Word) (s : State) :
    (applyCfg quiet index words s).listStore = s.listStore := by
  induction words generalizing index s with
  | nil => rfl
  | cons w rest ih => exact (ih (index + 1) _).trans (applyCfgWord_listStore quiet index w s)

@[simp] theorem siteCfgWriteRequest_listStore (index : Word) (words : List Word) (s : State) :
    (siteCfgWriteRequest index words s).listStore = s.listStore := by
  unfold siteCfgWriteRequest
  split
  · rfl
  · split
    · rfl
    · exact (endRoundIfDone_listStore _).trans (applyCfg_listStore _ _ words _)

@[simp] theorem planWriteRequest_listStore (index : Nat) (words : List Word) (s : State) :
    (planWriteRequest index words s).listStore = s.listStore := by
  unfold planWriteRequest
  split
  · rfl
  · split <;> rfl

@[simp] theorem filtersWriteRequest_listStore (index : Nat) (words : List Word) (s : State) :
    (filtersWriteRequest index words s).listStore = s.listStore := by
  unfold filtersWriteRequest
  split
  · rfl
  · split <;> rfl

@[simp] theorem readRequest_listStore (area : Nat) (index : Word) (n : Nat) (s : State) :
    (readRequest area index n s).listStore = s.listStore := by
  unfold readRequest
  split
  · rfl
  · split <;> rfl

@[simp] theorem drainRequest_listStore (ring : Word) (count : Nat) (s : State) :
    (drainRequest ring count s).listStore = s.listStore := by
  have reported (t : State) : (reportHeadroom t).listStore = t.listStore := by
    unfold reportHeadroom
    split <;> rfl
  unfold drainRequest
  split
  · exact reported _
  · split
    · rfl
    · exact reported _
  · rfl

@[simp] theorem enlistRequest_listStore (value : Word) (s : State) :
    (enlistRequest value s).listStore = s.listStore := by
  unfold enlistRequest
  repeat' split
  all_goals rfl

end Sys2Proof.Machine
end

section
/-! PROOFS. Sound lists: each way to write a list keeps it sound, so does each command that writes lists or Setup, and so
does every step. -/
namespace Sys2Proof.Machine

/-! ## One list (R94, R98, R103 to R105) -/

/-- A list without a block twice takes a block that it does not hold yet (R94). -/
theorem blocks_nodup_append {l : List Entry} {e : Entry} (h : (l.map Entry.block).Nodup)
    (unheld : listHolds l e.block = false) : ((l ++ [e]).map Entry.block).Nodup := by
  have other := (listHolds_eq_false_iff l e.block).mp unheld
  rw [List.map_append, List.nodup_append]
  exact ⟨h, List.nodup_singleton _, by simpa using other⟩

/-- A preload lists no block twice (R103). -/
theorem preloadList_nodup (words : List Word) {l : List Entry} (h : (l.map Entry.block).Nodup) :
    ((preloadList l words).map Entry.block).Nodup := by
  induction words generalizing l with
  | nil => exact h
  | cons w rest ih =>
    refine ih ?_
    split
    · exact h
    · next unheld => exact blocks_nodup_append h (by simpa using unheld)

/-- A preload adds no more entries than it has words (R103). -/
theorem preloadList_length_le (words : List Word) (l : List Entry) :
    (preloadList l words).length ≤ l.length + words.length := by
  induction words generalizing l with
  | nil => exact le_rfl
  | cons w rest ih =>
    refine (ih _).trans ?_
    split <;> simp only [List.length_append, List.length_cons, List.length_nil] <;> omega

/-! ## The lists of a state -/

section
variable {s : State}

/-- Soundness of the lists looks at the lists and at L only. -/
theorem State.ListsSound.congr {t : State} (h : s.ListsSound) (e : t.listStore = s.listStore) : t.ListsSound := by
  obtain ⟨lists, setup⟩ := Prod.ext_iff.mp e
  change t.lists = s.lists at lists
  change t.setup = s.setup at setup
  simpa only [State.ListsSound, State.list, lists, setup] using h

/-- A list replaced by a sound one (R94). -/
theorem State.ListsSound.setList (h : s.ListsSound) (i : SiteId) {l : List Entry} (room : l.length ≤ 64)
    (once : (l.map Entry.block).Nodup) : ({ s with lists := s.lists.set i l } : State).ListsSound := by
  refine ⟨h.1, fun j => ?_⟩
  rw [State.list, Table.get_set]
  split
  · exact ⟨room, once⟩
  · exact h.2 j

/-- Lists that have only lost entries (R94, R104, R105). -/
theorem State.ListsSound.sublists (h : s.ListsSound) {lists : PerSite (List Entry)}
    (lost : ∀ i, (lists.get i).Sublist (s.list i)) : ({ s with lists := lists } : State).ListsSound := by
  refine ⟨h.1, fun i => ?_⟩
  obtain ⟨room, once⟩ := h.2 i
  exact ⟨(lost i).length_le.trans room, once.sublist ((lost i).map _)⟩

/-! ## The handling of an event that lists a block (R81, R98, R100) -/

/-- A listing request finds the list below L, or appends nothing (R98). -/
theorem takeBlock_listsSound (h : s.ListsSound) (i : SiteId) (block : Nat) (page : Option Nat) (cause : ListCause) :
    (takeBlock i block page cause s).1.ListsSound := by
  have limit : s.setup.listLimit ≤ 64 := h.1.2
  rcases takeBlock_cases i block page cause s with ⟨_, kept⟩ | ⟨unheld, below, _, listed⟩ | ⟨_, _, full⟩
  · rw [kept]
    exact h
  · rw [listed]
    refine (h.setList i ?_ (blocks_nodup_append (h.2 i).2 unheld)).congr (offer_listStore _ _)
    rw [List.length_append, List.length_singleton]
    omega
  · rw [full]
    exact h

theorem listEvent_listsSound (h : s.ListsSound) (i : SiteId) (e : SiteEvent) (p : Position) :
    (listEvent i e p s).1.ListsSound := by
  unfold listEvent
  split
  · next cause _ =>
    have taken := takeBlock_listsSound h i p.block p.page cause
    unfold requestListing
    dsimp only
    split
    · exact taken
    · exact taken
  · exact h

/-- Of the six steps of a handling, the third alone writes a list (R81). -/
theorem handleEvent_listsSound (h : s.ListsSound) (i : SiteId) (e : SiteEvent) (p : Position) (trial : Bool) :
    (handleEvent i e p trial s).ListsSound := by
  have handled (a : Action) (f : Option (Fin 4)) : (handleFull i e p a f s).ListsSound := by
    have raised : (updateTotals i e p (raise e.condition i s)).ListsSound := h.congr (updateTotals_listStore i e p _)
    refine (listEvent_listsSound raised i e p).congr ?_
    rw [handleFull, filterAction_listStore, stopTest_listStore, offer_listStore]
  unfold handleEvent
  dsimp only
  split
  · exact h
  · split
    · exact h.congr (handleTrial_listStore i e p _ s)
    · exact handled _ _

/-! ## The events of the ports that handle one (R45, R46, R49, R51) -/

theorem siteReady_listsSound (h : s.ListsSound) (i : SiteId) (r : Round) (status : Byte) :
    (siteReady i r status s).ListsSound := by
  have ended : (endPart i (setClocks i Clocks.stopped s)).ListsSound := h.congr (endPart_listStore i _)
  unfold siteReady
  dsimp only
  split
  · split
    · exact (handleEvent_listsSound (by exact h) i _ _ _).congr (endPart_listStore i _)
    · split
      · exact h
      · exact ended
  · exact ended

theorem statusLive_listsSound (h : s.ListsSound) (i : SiteId) (r : Round) (status : Byte) :
    (statusLive i r status s).ListsSound :=
  iteInduction (motive := State.ListsSound) (fun _ => siteReady_listsSound (by exact h) i r status) fun _ => h

theorem statusEvent_listsSound (h : s.ListsSound) (i : SiteId) (status : Byte) :
    (statusEvent i status s).ListsSound := by
  have settled := h.congr (settle_listStore s)
  unfold statusEvent statusSettled
  split
  · exact h.congr (endDiscarded_listStore i s)
  · split
    · split
      · exact statusLive_listsSound settled i _ status
      · exact settled
    · exact settled

theorem dataEndEvent_listsSound (h : s.ListsSound) (i : SiteId) : (dataEndEvent i s).ListsSound := by
  have formed (r : Round) (x : Tally) (p : Position) : (outcomeFormed i r x p s).ListsSound := by
    unfold outcomeFormed
    dsimp only
    split
    · exact h.congr (endPart_listStore i _)
    · exact (handleEvent_listsSound (by exact h) i _ p _).congr (endPart_listStore i _)
  unfold dataEndEvent
  split
  · exact h.congr (endDiscarded_listStore i s)
  · split
    · split
      · split
        · exact formed _ _ _
        · exact h
      · exact h
    · exact h

/-! ## The requests that write lists or L (R24, R96, R103 to R105, R140, R171) -/

theorem preloadRequest_listsSound (h : s.ListsSound) (i : SiteId) (position : Nat) (words : List Word) :
    (preloadRequest i position words s).ListsSound := by
  have appended (within : (s.list i).length + words.length ≤ 64) :
      ({ s with lists := s.lists.set i (preloadList (s.list i) words) } : State).ListsSound :=
    h.setList i ((preloadList_length_le words _).trans within) (preloadList_nodup words (h.2 i).2)
  unfold preloadRequest
  split
  · exact h
  · split
    · exact h
    · next within =>
      split
      · exact h
      · split
        · exact h
        · next place =>
          have atEnd : position = (s.list i).length := by simpa using place
          split
          · exact h
          · exact appended (by omega)

theorem truncationRequest_listsSound (h : s.ListsSound) (i : SiteId) (words : List Word) :
    (truncationRequest i words s).ListsSound := by
  have cut : ({ s with lists := truncateLists s.lists i.val words } : State).ListsSound := by
    refine h.sublists fun j => ?_
    rw [truncateLists, Table.get_ofFn]
    split
    · split
      · exact List.take_sublist _ _
      · exact List.Sublist.refl _
    · exact List.Sublist.refl _
  unfold truncationRequest
  split
  · exact h
  · split
    · exact h
    · split
      · exact h
      · exact cut

/-- L is clamped to its range when it is written (R96, R171). -/
theorem storeSetup_listLimit {g : Setup} (h : 1 ≤ g.listLimit ∧ g.listLimit ≤ 64) (index : Nat) (words : List Word) :
    1 ≤ (storeSetup g index words).listLimit ∧ (storeSetup g index words).listLimit ≤ 64 := by
  unfold storeSetup
  dsimp only
  split
  · unfold clamp
    omega
  · exact h

theorem setupWriteRequest_listsSound (h : s.ListsSound) (index : Word) (words : List Word) :
    (setupWriteRequest index words s).ListsSound := by
  have stored : ({ s with setup := storeSetup s.setup index.toNat words } : State).ListsSound :=
    ⟨storeSetup_listLimit h.1 _ words, h.2⟩
  unfold setupWriteRequest applySetup
  split
  · exact h
  · split
    · exact h
    · dsimp only
      split
      · exact stored
      · exact stored

theorem clearResultsRequest_listsSound (h : s.ListsSound) : (clearResultsRequest s).ListsSound := by
  have cleared : ({ s with lists := s.lists.map preloadedOnly } : State).ListsSound := by
    refine h.sublists fun i => ?_
    rw [Table.get_map]
    exact List.filter_sublist
  unfold clearResultsRequest
  split
  · exact cleared
  · exact h

theorem resetRequest_listsSound (s : State) : (resetRequest s).ListsSound := State.reset_listsSound

/-! ## Frames of the link (R163 to R165, R168) -/

theorem badListWriteRequest_listsSound (h : s.ListsSound) (index : Nat) (words : List Word) :
    (badListWriteRequest index words s).ListsSound := by
  unfold badListWriteRequest
  split
  · exact preloadRequest_listsSound h _ _ words
  · split
    · exact truncationRequest_listsSound h _ words
    · split
      · exact h
      · exact h

theorem writeRequest_listsSound (h : s.ListsSound) (area : Nat) (index : Word) (words : List Word) :
    (writeRequest area index words s).ListsSound := by
  unfold writeRequest
  split
  · exact h.congr (planWriteRequest_listStore _ words s)
  · exact setupWriteRequest_listsSound h index words
  · exact h.congr (siteCfgWriteRequest_listStore index words s)
  · exact h
  · exact badListWriteRequest_listsSound h _ words
  · exact h.congr (filtersWriteRequest_listStore _ words s)
  · exact h
  · exact h

theorem controlRequest_listsSound (h : s.ListsSound) (code : Nat) : (controlRequest code s).ListsSound := by
  unfold controlRequest
  split
  · exact h.congr (startRequest_listStore s)
  · exact h.congr (pauseRequest_listStore s)
  · exact h.congr (stepRequest_listStore s)
  · exact h.congr (resumeRequest_listStore s)
  · exact h.congr (abortRequest_listStore s)
  · exact h.congr (stopAllRequest_listStore s)
  · exact clearResultsRequest_listsSound h
  · exact resetRequest_listsSound s
  · exact h

/-- A byte joins the frame, or completes it and brings its request (R163). -/
theorem byteEvent_listsSound (h : s.ListsSound) (byte : Byte) : (byteEvent byte s).ListsSound := by
  have request (kind area : Nat) (index : Word) (n : Nat) (payload : List Word) :
      (frameRequest kind area index n payload s).ListsSound := by
    unfold frameRequest
    split
    · exact writeRequest_listsSound h area index payload
    · exact h.congr (readRequest_listStore area index n s)
    · exact h.congr (drainRequest_listStore index n s)
    · exact controlRequest_listsSound h _
    · exact h.congr (enlistRequest_listStore _ s)
    · exact h
    · exact h
    · exact h
  unfold byteEvent assemble
  split
  · split
    · split
      · exact request _ _ _ _ _
      · exact h
    · exact h
  · exact h

end

/-! ## Every command -/

theorem exec_listsSound {s t : State} (c : Instr) (h : s.ListsSound) (answered : exec c s = .next t) :
    t.ListsSound := by
  have kept {u : State} (e : u.listStore = (settle s).listStore) : u.ListsSound :=
    h.congr (e.trans (settle_listStore s))
  have request {op : State → State} (e : ∀ u, (op u).listStore = u.listStore) : (onRequest op s).ListsSound :=
    onRequest_keeps h fun u hu => hu.congr (e u)
  cases c with
  | start => exact keeps_of_next answered (request startRequest_listStore)
  | pause => exact keeps_of_next answered (request pauseRequest_listStore)
  | stepRun => exact keeps_of_next answered (request stepRequest_listStore)
  | resume => exact keeps_of_next answered (request resumeRequest_listStore)
  | abort => exact keeps_of_next answered (request abortRequest_listStore)
  | stopAll => exact keeps_of_next answered (request stopAllRequest_listStore)
  | clearResults => exact keeps_of_next answered (onRequest_keeps h fun _ => clearResultsRequest_listsSound)
  | reset => exact keeps_of_next answered (onRequest_keeps h fun u _ => resetRequest_listsSound u)
  | responseEnd => exact keeps_of_next answered h
  | setupWrite index words =>
    exact keeps_of_wellFormed answered (onRequest_keeps h fun _ hu => setupWriteRequest_listsSound hu index words)
  | siteCfgWrite index words =>
    exact keeps_of_wellFormed answered (request (siteCfgWriteRequest_listStore index words))
  | preload site position words =>
    exact keeps_of_wellFormed answered (onRequest_keeps h fun _ hu => preloadRequest_listsSound hu site _ words)
  | truncation site words =>
    exact keeps_of_wellFormed answered (onRequest_keeps h fun _ hu => truncationRequest_listsSound hu site words)
  | write area index words =>
    exact keeps_of_wellFormed answered (onRequest_keeps h fun _ hu => writeRequest_listsSound hu _ index words)
  | drain ring count => exact keeps_of_wellFormed answered (request (drainRequest_listStore ring count))
  | enlist value => exact keeps_of_next answered (request (enlistRequest_listStore value))
  | ack causes => exact keeps_of_next answered (request fun _ => rfl)
  | probe => exact keeps_of_next answered (request fun _ => rfl)
  | powerOnReset straps => exact keeps_of_next answered State.reset_listsSound
  | eligibleInterval ticks => exact keeps_of_next answered (h.congr (intervalEvent_listStore ticks s))
  | lineIdleTimeout => exact keeps_of_next answered (h.congr (idleEvent_listStore s))
  | settlingEnd => exact keeps_of_next answered (h.congr (settlingEndEvent_listStore s))
  | lineBreak => exact keeps_of_next answered (h.congr (breakEvent_listStore s))
  | framingError => exact keeps_of_next answered (h.congr (framingErrorEvent_listStore s))
  | frameGapTimeout => exact keeps_of_next answered h
  | barrierPass peerVeto => exact keeps_of_next answered (kept (barrierEvent_listStore peerVeto _))
  | issue site => exact keeps_of_next answered (h.congr (issueEvent_listStore site s))
  | pollTimerExpiry site => exact keeps_of_next answered (kept (pollExpiry_listStore site _))
  | statusResult site status => exact keeps_of_next answered (statusEvent_listsSound h site status)
  | deadlineExpiry site => exact keeps_of_next answered (kept (deadlineEvent_listStore site _))
  | dataPartEnd site => exact keeps_of_next answered (dataEndEvent_listsSound h site)
  | discardedTransactionEnd site => exact keeps_of_next answered (h.congr (discardedEnd_listStore site s))
  | rendezvousTimeout => exact keeps_of_next answered (kept (timeoutEvent_listStore _))
  | stopFall => exact keeps_of_next answered (h.congr (stopFallEvent_listStore s))
  | stopRise => exact keeps_of_next answered (h.congr (stopRiseEvent_listStore s))
  | byteTaken byte => exact keeps_of_next answered (byteEvent_listsSound h byte)
  | settlingEdge => exact keeps_of_next answered (h.congr (settlingEdgeEvent_listStore s))
  | readByte site byte => exact keeps_of_next answered (h.congr (readByteEvent_listStore site byte s))
  | unknownRequestFrame => exact keeps_of_next answered (request fun _ => rfl)

end Sys2Proof.Machine

open Sys2Proof Sys2Proof.Machine

/-- Settles O8: every command keeps the lists sound; a piece of the runner's work and a µs leave them and L alone. -/
theorem listsStaySound : Obligations.ListsStaySound := fun _ _ h answered =>
  step_induction (P := State.ListsSound) (fun _ _ hs => hs) (fun c _ _ hs => exec_listsSound c hs)
    (fun s hs => hs.congr (advance_listStore s)) (fun s hs => hs.congr (tick_listStore s)) h answered
end

section
/-! PROOFS. PRELOAD and TRUNCATION: the blocks that a preload adds, the lists that a truncation cuts, and the
refusals. -/
namespace Sys2Proof.Machine

theorem exec_preload {s : State} (takes : s.linkTakes = true) (i : SiteId) (position : Fin 64) {words : List Word}
    (h1 : 1 ≤ words.length) (h2 : words.length ≤ 256) :
    exec (.preload i position words) s = .next (preloadRequest i position.val words s) := by
  simp [exec, execPreload, frameCountOk, h1, h2, onRequest_of_takes takes]

theorem exec_truncation {s : State} (takes : s.linkTakes = true) (i : SiteId) {words : List Word}
    (h1 : 1 ≤ words.length) (h2 : words.length ≤ 256) :
    exec (.truncation i words) s = .next (truncationRequest i words s) := by
  simp [exec, execTruncation, frameCountOk, h1, h2, onRequest_of_takes takes]

/-! ## The blocks that a preload adds (R103) -/

/-- A PRELOADED entry of a block (R103). -/
def Entry.preloaded (block : Nat) : Entry := { block := block, found := none }

/-- The blocks that a preload adds to a list, in the order in which it adds them. -/
def addedBlocks (l : List Entry) (words : List Word) : List Nat :=
  match words with
  | [] => []
  | w :: rest =>
    if listHolds l w.toNat then addedBlocks l rest
    else w.toNat :: addedBlocks (l ++ [Entry.preloaded w.toNat]) rest

theorem preloadList_eq (l : List Entry) (words : List Word) :
    preloadList l words = l ++ (addedBlocks l words).map Entry.preloaded := by
  induction words generalizing l with
  | nil => simp [preloadList, addedBlocks]
  | cons w rest ih =>
    cases held : listHolds l w.toNat with
    | true => simpa [preloadList, addedBlocks, held] using ih l
    | false => simpa [preloadList, addedBlocks, held, Entry.preloaded] using ih (l ++ [Entry.preloaded w.toNat])

theorem listHolds_append_preloaded (l : List Entry) (b c : Nat) :
    listHolds (l ++ [Entry.preloaded b]) c = (listHolds l c || b == c) := by
  simp [listHolds, Entry.preloaded]

/-- The blocks added are those of the words that the list does not hold (R103). -/
theorem mem_addedBlocks (l : List Entry) (words : List Word) (b : Nat) :
    b ∈ addedBlocks l words ↔ b ∈ words.map BitVec.toNat ∧ listHolds l b = false := by
  induction words generalizing l with
  | nil => simp [addedBlocks]
  | cons w rest ih =>
    rw [List.map_cons, List.mem_cons]
    cases held : listHolds l w.toNat with
    | true =>
      have other : listHolds l b = false → b ≠ w.toNat := fun unheld e => by simp [← e, unheld] at held
      rw [addedBlocks, if_pos held, ih]
      tauto
    | false =>
      rw [addedBlocks, if_neg (by simp [held]), List.mem_cons, ih, listHolds_append_preloaded]
      by_cases same : b = w.toNat
      · simp [same, held]
      · simp [same, Ne.symm same]

/-- The blocks are added in the order of their first words, so that each is added once (R103). -/
theorem addedBlocks_pairwise (l : List Entry) (words : List Word) :
    (addedBlocks l words).Pairwise
      fun b c => (words.map BitVec.toNat).idxOf b < (words.map BitVec.toNat).idxOf c := by
  induction words generalizing l with
  | nil => exact List.Pairwise.nil
  | cons w rest ih =>
    have later {added : List Nat} (others : ∀ b ∈ added, b ≠ w.toNat)
        (ordered : added.Pairwise fun b c => (rest.map BitVec.toNat).idxOf b < (rest.map BitVec.toNat).idxOf c) :
        added.Pairwise fun b c =>
          ((w :: rest).map BitVec.toNat).idxOf b < ((w :: rest).map BitVec.toNat).idxOf c := by
      refine ordered.imp_of_mem fun {b c} hb hc before => ?_
      rw [List.map_cons, List.idxOf_cons_ne _ (others b hb).symm, List.idxOf_cons_ne _ (others c hc).symm]
      exact Nat.succ_lt_succ before
    cases held : listHolds l w.toNat with
    | true =>
      rw [addedBlocks, if_pos held]
      refine later (fun b hb e => ?_) (ih l)
      simp [e, mem_addedBlocks, held] at hb
    | false =>
      have others (b : Nat) (hb : b ∈ addedBlocks (l ++ [Entry.preloaded w.toNat]) rest) : b ≠ w.toNat := fun e => by
        simp [e, mem_addedBlocks, listHolds_append_preloaded] at hb
      rw [addedBlocks, if_neg (by simp [held]), List.pairwise_cons]
      refine ⟨fun b hb => ?_, later others (ih _)⟩
      rw [List.map_cons, List.idxOf_cons_self, List.idxOf_cons_ne _ (others b hb).symm]
      exact Nat.succ_pos _

/-- The branch of PRELOAD that writes the list (R103). -/
theorem preloadRequest_accepted {s : State} {i : SiteId} {words : List Word} (hquiet : s.quiet = true)
    (within : (s.list i).length + words.length ≤ 64) (blocks : ∀ w ∈ words, w.toNat ≤ 4095) :
    preloadRequest i (s.list i).length words s =
      answer .ok [] { s with lists := s.lists.set i (preloadList (s.list i) words) } := by
  have inArea : ¬ 2080 < 64 * i.val + (s.list i).length + words.length := by omega
  have named : (words.any fun w => decide (4095 < w.toNat)) = false := by simpa using blocks
  simp [preloadRequest, inArea, Nat.not_lt.mpr within, hquiet, named]

/-! ## The counts of a truncation (R104) -/

theorem frameWord_eq_some_iff (index : Nat) (words : List Word) (k : Nat) (w : Word) :
    frameWord index words k = some w ↔ index ≤ k ∧ words[k - index]? = some w := by
  by_cases h : index ≤ k <;> simp [frameWord, h]

/-- A frame is refused when a site that it names holds fewer entries than the word says. -/
theorem anyCountAbove_iff {s : State} {words : List Word} {first : Nat} (within : first + words.length ≤ 32) :
    anyCountAbove s first words = true ↔
      ∃ (j : SiteId) (w : Word), frameWord first words j.val = some w ∧ (s.list j).length < w.toNat := by
  induction words generalizing first with
  | nil => simp [anyCountAbove, frameWord_nil]
  | cons w rest ih =>
    have inside : first + 1 + rest.length ≤ 32 := by
      rw [List.length_cons] at within
      omega
    obtain ⟨k, hk⟩ : ∃ k : SiteId, k.val = first := ⟨⟨first, by omega⟩, rfl⟩
    have list : Table.at (n := 31) s.lists first = s.list k := hk ▸ lists_at s k
    have other {j : SiteId} {v : Word} (hj : frameWord (first + 1) rest j.val = some v) : j.val ≠ first := by
      intro e
      simp [e, frameWord_of_lt (Nat.lt_succ_self first)] at hj
    rw [anyCountAbove, Bool.or_eq_true, decide_eq_true_eq, ih inside, list]
    constructor
    · rintro (above | ⟨j, v, hj, above⟩)
      · exact ⟨k, w, hk ▸ frameWord_cons_self _ w rest, above⟩
      · exact ⟨j, v, (frameWord_cons_of_ne (other hj) w rest).trans hj, above⟩
    · rintro ⟨j, v, hj, above⟩
      by_cases same : j.val = first
      · obtain rfl : j = k := Fin.ext (same.trans hk.symm)
        obtain rfl : w = v := by simpa [same, frameWord_cons_self] using hj
        exact .inl above
      · exact .inr ⟨j, v, (frameWord_cons_of_ne same w rest).symm.trans hj, above⟩

/-- A list after a truncation: its first entries where the frame has a word for its site (R104). -/
theorem truncateLists_get (lists : PerSite (List Entry)) (first : Nat) (words : List Word) (j : SiteId) :
    (truncateLists lists first words).get j =
      match frameWord first words j.val with
      | some w => (lists.get j).take w.toNat
      | none => lists.get j := by
  rw [truncateLists, Table.get_ofFn, frameWord]
  split <;> rfl

end Sys2Proof.Machine

open Sys2Proof Sys2Proof.Machine

/-- Settles O27: the accepted frame adds `addedBlocks`; the refusals are the branches of `preloadRequest`, in their
order. -/
theorem preloadAppendsOrRefuses : Obligations.PreloadAppendsOrRefuses := by
  refine ⟨fun s i position words takes hquiet h1 within atEnd blocks => ?_, fun s i position words takes h1 h2 => ?_⟩
  · have request := exec_preload takes i position h1 (by omega)
    rw [atEnd, preloadRequest_accepted hquiet (by omega) blocks] at request
    refine ⟨_, addedBlocks (s.list i) words, request, rfl, fun j hj => Table.get_set_ne _ _ hj.symm, ?_,
      addedBlocks_pairwise _ words, mem_addedBlocks _ words⟩
    exact (Table.get_set_self _ i _).trans (preloadList_eq _ words)
  · have inArea (within : position.val + words.length ≤ 64) :
        ¬ 2080 < 64 * i.val + position.val + words.length := by omega
    rw [exec_preload takes i position h1 h2, preloadRequest]
    refine ⟨fun past => ?_, fun inside past => ?_, fun within hquiet => ?_, fun within hquiet gap => ?_,
      fun within hquiet atEnd above => ?_⟩
    · rw [if_pos past]
    · rw [if_neg (by omega), if_pos past]
    · rw [if_neg (inArea within), if_neg (by omega), if_pos (by simp [hquiet])]
    · rw [if_neg (inArea within), if_neg (by omega), if_neg (by simp [hquiet]), if_pos (by simpa using gap)]
    · rw [if_neg (inArea within), if_neg (by omega), if_neg (by simp [hquiet]), if_neg (by simpa using atEnd),
        if_pos (by simpa using above)]

/-- Settles O28: the branches of `truncationRequest`, in their order; in the last one each list by the frame's word for
its site. -/
theorem truncationCutsLists : Obligations.TruncationCutsLists := by
  intro s i words takes h1 h2
  have counts (within : i.val + words.length ≤ 32) : anyCountAbove s i.val words = true ↔
      ∃ (j : SiteId) (w : Word), (i.val ≤ j.val ∧ words[j.val - i.val]? = some w) ∧ (s.list j).length < w.toNat := by
    simp only [anyCountAbove_iff within, frameWord_eq_some_iff]
  rw [exec_truncation takes i h1 h2, truncationRequest]
  refine ⟨fun past => ?_, fun within hquiet => ?_, fun within hquiet ⟨j, w, hle, hw, above⟩ => ?_,
    fun within hquiet bounded => ?_⟩
  · rw [if_pos past]
  · rw [if_neg (by omega), if_pos (by simp [hquiet])]
  · rw [if_neg (by omega), if_neg (by simp [hquiet]), if_pos ((counts within).mpr ⟨j, w, ⟨hle, hw⟩, above⟩)]
  · have fits : ¬ anyCountAbove s i.val words = true := by
      rw [counts within]
      rintro ⟨j, w, ⟨hle, hw⟩, above⟩
      exact absurd (bounded j w hle hw) (Nat.not_le.mpr above)
    rw [if_neg (by omega), if_neg (by simp [hquiet]), if_neg fits]
    refine ⟨_, rfl, rfl, fun j w hle hw => ?_, fun j outside => ?_⟩
    · refine (truncateLists_get _ _ words j).trans ?_
      rw [(frameWord_eq_some_iff _ _ _ _).mpr ⟨hle, hw⟩]
      rfl
    · have unnamed : frameWord i.val words j.val = none := by
        unfold frameWord
        split
        · rw [List.getElem?_eq_none (by omega)]
        · rfl
      refine (truncateLists_get _ _ words j).trans ?_
      rw [unnamed]
      rfl
end

section
/-! SUPPORT. The Tie Port's record by itself: what its own operations keep of its soundness, while the runner is in a
quiet state and while it is in any other. -/
namespace Sys2Proof.Machine

/-- The quiet drive, with nothing waited for (R129, R134). -/
abbrev Tie.AtRest (t : Tie) : Prop :=
  t.wait = none ∧ t.vote = none ∧ t.heldVeto = none ∧ t.timer = none ∧
    (t.enlistment = .enlisted → t.markE = true ∧ t.markO = true)

/-- The soundness of a Tie Port record, with the runner in a quiet state or not (R129, R130, R134, R137). -/
structure Tie.SoundIn (t : Tie) (quiet : Bool) : Prop where
  mark : t.enlistment = .enlisted → t.markE = true ∨ t.markO = true
  stop : t.stop.isSome = (t.ownPull.isSome || t.peerStop)
  rest : quiet = true → t.AtRest
  barrier : t.barrier < 65536

/-- The Tie Port's soundness as a fact of its record and of the runner's state, which are all that it looks at. -/
abbrev State.TieHolds (s : State) : Prop := s.tie.SoundIn s.quiet

theorem State.tieSound_iff (s : State) : s.TieSound ↔ s.TieHolds :=
  ⟨fun h => ⟨h.mark, h.stop, h.quiet, h.barrier⟩, fun h => ⟨h.mark, h.stop, h.rest, h.barrier⟩⟩

namespace Tie.SoundIn

variable {t : Tie} {q : Bool}

/-- Outside the quiet states less is asked of the record. -/
theorem outsideQuiet (h : t.SoundIn q) : t.SoundIn false where
  mark := h.mark
  stop := h.stop
  rest e := nomatch e
  barrier := h.barrier

/-- The quiet drive is sound in every state (R129). -/
theorem quietDrive (h : t.SoundIn q) (q' : Bool) : t.quiet.SoundIn q' where
  mark _ := .inl rfl
  stop := h.stop
  rest _ := ⟨rfl, rfl, rfl, rfl, fun _ => ⟨rfl, rfl⟩⟩
  barrier := h.barrier

/-- An arrival releases the mark line of the barrier's parity and holds the other (R131). -/
theorem arrive (h : t.SoundIn q) (kind : BarrierKind) (vote : Option Verdict) (timeout : Nat) :
    (t.arrive kind vote timeout).SoundIn false where
  mark _ := by cases parity : parityOf t.barrier <;> simp [Tie.arrive, parity]
  stop := h.stop
  rest e := nomatch e
  barrier := h.barrier

/-- A passing counts the barrier within 16 bits (R130, R132). -/
theorem pass (h : t.SoundIn q) (w : Wait) (sampled : Verdict) : (t.pass w sampled).SoundIn false where
  mark := h.mark
  stop := h.stop
  rest e := nomatch e
  barrier := Nat.mod_lt _ (Nat.succ_pos _)

/-- A µs starts no wait and no timer (R134, R142). -/
theorem tick (h : t.SoundIn q) (timeout : Nat) : (t.tick timeout).SoundIn q where
  mark := h.mark
  stop := h.stop
  rest quiet := by
    obtain ⟨wait, vote, held, timer, marks⟩ := h.rest quiet
    exact ⟨by simp [Tie.tick, wait], vote, held, by simp [Tie.tick, timer], marks⟩
  barrier := h.barrier

/-- A change of the pulls on STOP that keeps the stop in force in step with them (R137). -/
theorem withStop (h : t.SoundIn q) {own : Option OwnCause} {stop : Option HaltCause} {peer : Bool} (reported : Bool)
    (inForce : stop.isSome = (own.isSome || peer)) :
    ({ t with ownPull := own, stop := stop, reported := reported, peerStop := peer } : Tie).SoundIn q :=
  ⟨h.mark, inForce, h.rest, h.barrier⟩

/-- With the own pull released, the sensed level alone says whether a stop is in force (R137, R139). -/
theorem resense (h : t.SoundIn q) : t.resense.SoundIn q :=
  h.withStop (peer := t.peerStop) _ (by cases t.peerStop <;> rfl)

/-- ABORT and RESET leave the Tie Port at rest, an enlisted station with both mark lines (R139, R140). -/
theorem abort (h : t.SoundIn q) (q' : Bool) : t.abort.SoundIn q' where
  mark enlisted := .inl (beq_iff_eq.mpr enlisted)
  stop := h.resense.stop
  rest _ := ⟨rfl, rfl, rfl, rfl, fun enlisted => ⟨beq_iff_eq.mpr enlisted, beq_iff_eq.mpr enlisted⟩⟩
  barrier := Nat.succ_pos _

/-- START makes the barrier number 0 and clears the veto and the vote (R10). -/
theorem cleared (h : t.SoundIn q) :
    ({ t with barrier := 0, sampledVeto := none, heldVeto := none, vote := none } : Tie).SoundIn q where
  mark := h.mark
  stop := h.stop
  rest quiet := by
    obtain ⟨wait, _, _, timer, marks⟩ := h.rest quiet
    exact ⟨wait, rfl, rfl, timer, marks⟩
  barrier := Nat.succ_pos _

/-- ENLIST with yes pulls both mark lines (R128). -/
theorem enlisted (h : t.SoundIn q) :
    ({ t with enlistment := .enlisted, lock := true, markE := true, markO := true } : Tie).SoundIn q where
  mark _ := .inl rfl
  stop := h.stop
  rest quiet := by
    obtain ⟨wait, vote, held, timer, _⟩ := h.rest quiet
    exact ⟨wait, vote, held, timer, fun _ => ⟨rfl, rfl⟩⟩
  barrier := h.barrier

/-- ENLIST with no leaves the station out, which then need pull no line (R128). -/
theorem leftOut (h : t.SoundIn q) : ({ t with enlistment := .leftOut, lock := true } : Tie).SoundIn q where
  mark e := nomatch e
  stop := h.stop
  rest quiet := by
    obtain ⟨wait, vote, held, timer, _⟩ := h.rest quiet
    exact ⟨wait, vote, held, timer, fun e => nomatch e⟩
  barrier := h.barrier

end Tie.SoundIn

/-- After power-on reset the Tie Port is at rest and senses STOP (R127, R137, R141). -/
theorem Tie.reset_soundIn (straps : BitVec 4) (peerStop quiet : Bool) : (Tie.reset straps peerStop).SoundIn quiet where
  mark e := nomatch e
  stop := by cases peerStop <;> rfl
  rest _ := ⟨rfl, rfl, rfl, rfl, fun e => nomatch e⟩
  barrier := Nat.succ_pos _

end Sys2Proof.Machine
end

section
/-! PROOFS. A sound Tie Port: what the stops, the runner's work, the events and the requests do to the Tie Port and to
the runner's state keeps it sound, and so does every step. -/
namespace Sys2Proof.Machine

section
variable {s : State}

theorem State.TieHolds.congr {t : State} (h : s.TieHolds) (tie : t.tie = s.tie)
    (state : t.runner.state = s.runner.state) : t.TieHolds := by
  rw [State.TieHolds, State.quiet, tie, state]
  exact h

theorem offer_tieHolds (h : s.TieHolds) (b : RecordBody) : (offer b s).TieHolds :=
  h.congr (offer_tie b s) (congrArg Runner.state (offer_runner b s))

/-! ## Halts and stops (R17, R18, R129, R136, R137) -/

theorem enterHalted_tieHolds (h : s.TieHolds) (cause : Option HaltCause) : (enterHalted cause s).TieHolds := by
  rw [State.TieHolds, enterHalted_tie]
  exact h.quietDrive _

theorem enterDone_tieHolds (h : s.TieHolds) (way : EndWay) : (enterDone way s).TieHolds := by
  rw [State.TieHolds, enterDone_tie]
  exact h.quietDrive _

theorem runnerStop_tieHolds (h : s.TieHolds) (cause : HaltCause) : (runnerStop cause s).TieHolds := by
  rcases runnerStop_cases cause s with ⟨_, _, halting⟩ | ⟨_, _, between⟩ | ⟨_, halted⟩ | ⟨_, kept⟩
  · rw [halting, freezeNotice_eq]
    exact h.outsideQuiet
  · rw [between]
    rcases stopBetweenRounds_cases cause s with ⟨_, _, held⟩ | ⟨_, halted⟩
    · rw [held]
      exact h
    · rw [halted]
      exact enterHalted_tieHolds h _
  · rw [halted]
    exact enterHalted_tieHolds h _
  · rw [kept]
    exact h

/-- The report of a stop leaves the stop and the pulls as they are (R137). -/
theorem takeStop_tieHolds (h : s.TieHolds) : (takeStop s).TieHolds := by
  rcases takeStop_cases s with ⟨_, kept⟩ | ⟨_, _, _, taken⟩
  · rw [kept]
    exact h
  · rw [taken]
    exact runnerStop_tieHolds (h.withStop true h.stop) _

/-- With an own pull a stop is in force: the one that is there, or the one that the pull brings (R137). -/
theorem requestPull_tieHolds (h : s.TieHolds) (c : OwnCause) : (requestPull c s).TieHolds := by
  rcases requestPull_cases c s with ⟨_, kept⟩ | ⟨_, inForce, joined⟩ | ⟨_, _, brought⟩
  · rw [kept]
    exact h
  · rw [joined]
    exact h.withStop _ inForce
  · rw [brought]
    exact h.withStop _ rfl

/-! ## The handling of an event (R81, R82, R86, R118) -/

theorem rejectSite_tieHolds (h : s.TieHolds) (c : Condition) (i : SiteId) (block page : Option Nat) :
    (rejectSite c i block page s).TieHolds := by
  rcases rejectSite_cases c i block page s with ⟨_, kept⟩ | ⟨_, rejected⟩
  · rw [kept]
    exact h
  · rw [rejected]
    exact offer_tieHolds (by exact h) _

theorem stopTest_tieHolds (h : s.TieHolds) (raised : List Condition) (i : SiteId) (block page : Option Nat) :
    (stopTest raised i block page s).TieHolds := by
  have pulls (b : Bool) (u : State) (hu : u.TieHolds) : (if b then requestPull .ownCondition u else u).TieHolds := by
    split
    · exact requestPull_tieHolds hu _
    · exact hu
  refine pulls _ _ ?_
  split
  · exact rejectSite_tieHolds h _ i block page
  · exact h

theorem filterAction_tieHolds (h : s.TieHolds) (a : Action) (i : SiteId) (block page : Option Nat) :
    (filterAction a i block page s).TieHolds := by
  have raised : (raise .filterStop i s).TieHolds := h
  cases a with
  | ignore => exact h
  | log => exact h
  | rejectSite => exact rejectSite_tieHolds raised _ i block page
  | stopAll => exact requestPull_tieHolds raised _

theorem listEvent_tieHolds (h : s.TieHolds) (i : SiteId) (e : SiteEvent) (p : Position) :
    (listEvent i e p s).1.TieHolds := by
  have taken (cause : ListCause) : (takeBlock i p.block p.page cause s).1.TieHolds := by
    rcases takeBlock_cases i p.block p.page cause s with ⟨_, kept⟩ | ⟨_, _, _, listed⟩ | ⟨_, _, full⟩
    · rw [kept]
      exact h
    · rw [listed]
      exact offer_tieHolds (by exact h) _
    · rw [full]
      exact h
  unfold listEvent
  split
  · unfold requestListing
    dsimp only
    split
    · exact taken _
    · exact taken _
  · exact h

/-- Of the six steps of a handling, the stop test and the filter's action can pull STOP (R81, R83, R85). -/
theorem handleFull_tieHolds (h : s.TieHolds) (i : SiteId) (e : SiteEvent) (p : Position) (a : Action)
    (f : Option (Fin 4)) : (handleFull i e p a f s).TieHolds := by
  have totals : (updateTotals i e p (raise e.condition i s)).TieHolds := by
    cases e with
    | outcome o => exact h
    | opFailure status => exact h
  exact filterAction_tieHolds (stopTest_tieHolds (offer_tieHolds (listEvent_tieHolds totals i e p) _) _ i _ _) a i _ _

theorem trialEvent_tieHolds (h : s.TieHolds) (i : SiteId) (c : Condition) : (trialEvent i c s).TieHolds := by
  rcases trialEvent_cases i c s with dropped | flagged
  · rw [dropped]
    exact h
  · rw [flagged]
    exact h

theorem handleEvent_tieHolds (h : s.TieHolds) (i : SiteId) (e : SiteEvent) (p : Position) (trial : Bool) :
    (handleEvent i e p trial s).TieHolds := by
  have inTrial (f : Option (Fin 4)) : (handleTrial i e p f s).TieHolds := by
    have flagged := trialEvent_tieHolds h i e.condition
    unfold handleTrial
    dsimp only
    split
    · exact offer_tieHolds flagged _
    · exact flagged
  unfold handleEvent
  dsimp only
  split
  · exact h
  · split
    · exact inTrial _
    · exact handleFull_tieHolds h i e p _ _

theorem handleTimeout_tieHolds (h : s.TieHolds) (i : SiteId) (block page : Option Nat) (trial : Bool) :
    (handleTimeout i block page trial s).TieHolds := by
  unfold handleTimeout
  split
  · exact trialEvent_tieHolds h i _
  · exact stopTest_tieHolds (by exact h) _ i block page

theorem handOutSite_tieHolds (h : s.TieHolds) (c : Search) (i : SiteId) : (handOutSite c s i).TieHolds := by
  have recorded (f : Site → Site) (b : RecordBody) : (offer b (modifySite i f s)).TieHolds :=
    offer_tieHolds (by exact h) b
  unfold handOutSite
  dsimp only
  split
  · exact recorded _ _
  · exact stopTest_tieHolds (by exact recorded _ _) _ i none none

/-! ## The end of steps, rounds and searches (R13, R29, R56, R119) -/

theorem goTo_tieHolds (h : s.TieHolds) (index : Nat) : (goTo index s).TieHolds := by
  rcases goTo_cases index s with ⟨_, next⟩ | ⟨_, past⟩
  · rw [next]
    exact h
  · rw [past]
    exact enterDone_tieHolds h _

theorem workDone_tieHolds (h : s.TieHolds) : (workDone s).TieHolds := by
  have completed : (completeStep s).TieHolds := goTo_tieHolds h _
  unfold workDone
  split
  · split
    · split
      · exact h
      · exact h
    · exact completed
  · exact completed

theorem completeSearch_tieHolds (h : s.TieHolds) : (completeSearch s).TieHolds := by
  unfold completeSearch
  split
  · exact goTo_tieHolds (by exact h) _
  · exact h

theorem afterRound_tieHolds (h : s.TieHolds) (a : Ask) : (afterRound a s).TieHolds := by
  have swept : (sweepRoundEnded s).TieHolds := by
    unfold sweepRoundEnded
    split
    · split
      · exact h
      · exact workDone_tieHolds (by exact h)
    · exact workDone_tieHolds h
  cases a with
  | sweep => exact swept
  | poll => exact workDone_tieHolds h
  | trim => exact workDone_tieHolds h
  | trialCode => exact h
  | finalTrim => exact completeSearch_tieHolds h

theorem endRoundIfDone_tieHolds (h : s.TieHolds) : (endRoundIfDone s).TieHolds := by
  have roundEnds : (endRound s).TieHolds := by
    rcases endRound_cases s with ⟨_, halted⟩ | ⟨_, a, _, goesOn⟩ | ⟨_, _, ended⟩
    · rw [halted]
      exact enterHalted_tieHolds (by exact h) _
    · rw [goesOn]
      exact afterRound_tieHolds (by exact h) a
    · rw [ended]
      exact h
  rcases endRoundIfDone_cases s with ⟨_, _, done⟩ | ⟨_, waits⟩
  · rw [done]
    exact roundEnds
  · rw [waits]
    exact h

theorem afterResults_tieHolds (h : s.TieHolds) (c : Search) : (afterResults c s).TieHolds := by
  rcases afterResults_cases c s with ⟨_, _, halted⟩ | ⟨_, _, asked⟩ | ⟨_, _, complete⟩
  · rw [halted]
    exact enterHalted_tieHolds h _
  · rw [asked]
    exact h
  · rw [complete]
    exact completeSearch_tieHolds h

theorem handOutOn_tieHolds (h : s.TieHolds) (c : Search) : (handOutOn c s).TieHolds := by
  rcases handOutOn_cases c s with ⟨_, done⟩ | ⟨_, goesOn⟩
  · rw [done]
    exact afterResults_tieHolds h c
  · rw [goesOn]
    exact h

/-! ## Trials and barriers (R16, R112 to R116, R131 to R133) -/

theorem decideNext_tieHolds (h : s.TieHolds) (c : Search) : (decideNext c s).TieHolds := by
  have finished : (finishTrials c s).TieHolds := handOutOn_tieHolds (by exact h) _
  unfold decideNext
  split
  · exact h
  · split
    · split
      · split
        · exact finished
        · exact h
      · split
        · exact h
        · exact finished
    · exact finished

theorem trialPassed_tieHolds (h : s.TieHolds) (combined : Verdict) (barrier : Nat) :
    (trialPassed combined barrier s).TieHolds := by
  unfold trialPassed
  split
  · exact decideNext_tieHolds (offer_tieHolds (by exact h) _) _
  · exact h

/-- A passing leaves the runner RUNNING, or where its work goes on from there (R16, R132). -/
theorem passBarrier_tieHolds (h : s.TieHolds) (w : Wait) (sampled : Verdict) (waited : Nat) :
    (passBarrier w sampled waited s).TieHolds := by
  have passed : (s.passed w sampled waited).TieHolds := by
    rw [State.passed_eq]
    exact h.pass w sampled
  rw [passBarrier_eq]
  cases w.kind with
  | start => exact passed
  | rendezvous => exact workDone_tieHolds passed
  | trial => exact trialPassed_tieHolds passed _ _

theorem arrive_tieHolds (h : s.TieHolds) (kind : BarrierKind) (vote : Option Verdict) :
    (arrive kind vote s).TieHolds := by
  have arriving : (s.arriving kind vote).TieHolds := h.arrive kind vote _
  rcases arrive_cases kind vote s with ⟨_, waits⟩ | ⟨_, passes⟩
  · rw [waits]
    exact arriving
  · rw [passes]
    exact passBarrier_tieHolds arriving _ _ _

theorem closeTrial_tieHolds (h : s.TieHolds) : (closeTrial s).TieHolds := by
  unfold closeTrial
  split
  · exact h.outsideQuiet
  · split
    · split
      · refine decideNext_tieHolds ?_ _
        rw [foldl_offerTrialResult_frame]
        exact h
      · exact arrive_tieHolds (by exact h) _ _
    · exact h

/-! ## The runner's work (R11 to R15, R42, R110, R118) -/

theorem formRound_tieHolds (h : s.TieHolds) (a : Ask) (w : RoundWork) (admits : SiteId → Bool) :
    (formRound a w admits s).TieHolds :=
  endRoundIfDone_tieHolds (s := s.formed a w admits) h

theorem requestSweepRound_tieHolds (h : s.TieHolds) : (requestSweepRound s).TieHolds := by
  unfold requestSweepRound
  split
  · split
    · exact formRound_tieHolds (by exact h) _ _ _
    · exact h
  · exact h

theorem askRound_tieHolds (h : s.TieHolds) (a : Ask) : (askRound a s).TieHolds := by
  unfold askRound requestRound
  split
  · exact h.outsideQuiet
  · split
    · exact requestSweepRound_tieHolds h
    all_goals
      split
      · exact formRound_tieHolds h _ _ _
      · exact h

theorem handOutNext_tieHolds (h : s.TieHolds) : (handOutNext s).TieHolds := by
  unfold handOutNext
  split
  · split
    · exact handOutOn_tieHolds (takeStop_tieHolds (handOutSite_tieHolds (by exact h) _ _)) _
    · exact afterResults_tieHolds h _
  · exact h

theorem stepWork_tieHolds (h : s.TieHolds) : (stepWork s).TieHolds := by
  unfold stepWork
  split
  · next step _ =>
    cases step.body with
    | endStep => exact enterDone_tieHolds h _
    | sweep f => exact h
    | poll mask expected count deadline => exact h
    | trim address source => exact h
    | search f => exact h
    | rendezvous => exact arrive_tieHolds h _ _
    | repeatStep span count =>
      unfold repeatWork
      dsimp only
      split
      · exact goTo_tieHolds (by exact h) _
      · exact h
    | marker => exact workDone_tieHolds (offer_tieHolds h _)
  · exact h

theorem beginStep_tieHolds (h : s.TieHolds) : (beginStep s).TieHolds := by
  unfold beginStep
  dsimp only
  split
  · next step _ =>
    have noted : (if step.note then offer (.stepBegin s.runner.stepIndex step.label) (clearCurrent s)
        else clearCurrent s).TieHolds := by
      split
      · exact offer_tieHolds (by exact h) _
      · exact h
    split
    · split
      · exact noted
      · exact stepWork_tieHolds noted
    · exact stepWork_tieHolds noted
  · exact h

theorem boundary_tieHolds (h : s.TieHolds) : (boundary s).TieHolds := by
  rcases boundary_cases s with ⟨_, paused⟩ | ⟨_, _, stalled⟩ | ⟨_, _, _, _, halted⟩ | ⟨_, _, _, passed⟩
  · rw [paused]
    exact h.outsideQuiet
  · rw [stalled]
    exact h.outsideQuiet
  · rw [halted]
    exact enterHalted_tieHolds h _
  · rw [passed]
    exact h

/-- One piece of the runner's work (log entry 39). -/
theorem advance_tieHolds (h : s.TieHolds) : (advance s).TieHolds := by
  unfold advance
  split
  · exact boundary_tieHolds h
  · exact beginStep_tieHolds h
  · exact stepWork_tieHolds h
  · exact askRound_tieHolds h _
  · exact closeTrial_tieHolds h
  · exact handOutNext_tieHolds h
  all_goals exact h

theorem settle_tieHolds (h : s.TieHolds) : (settle s).TieHolds :=
  settle_induction (P := State.TieHolds) (fun _ ht _ => advance_tieHolds ht) h

/-- A µs (R134, R142). -/
theorem tick_tieHolds (h : s.TieHolds) : (tick s).TieHolds := by
  have ticked := h.tick s.setup.rendezvousTimeout
  rcases tick_cases s with ⟨_, free⟩ | ⟨_, _, heldOff⟩
  · rw [free]
    exact ticked
  · rw [heldOff]
    exact ticked

/-! ## The events of the ports (R44 to R53) -/

theorem endPart_tieHolds (h : s.TieHolds) (i : SiteId) : (endPart i s).TieHolds :=
  endRoundIfDone_tieHolds (s := modifySite i Site.leaveRound (takeStop s)) (takeStop_tieHolds h)

theorem endDiscarded_tieHolds (h : s.TieHolds) (i : SiteId) : (endDiscarded i s).TieHolds := by
  rw [endDiscarded_eq]
  exact h

theorem discardedEnd_tieHolds (h : s.TieHolds) (i : SiteId) : (discardedEnd i s).TieHolds := by
  unfold discardedEnd
  split
  · exact endDiscarded_tieHolds h i
  · exact h

theorem issueEvent_tieHolds (h : s.TieHolds) (i : SiteId) : (issueEvent i s).TieHolds := by
  have settled := settle_tieHolds h
  unfold issueEvent issueSettled issueLive
  split
  · exact endDiscarded_tieHolds h i
  · split
    · split
      · dsimp only
        split
        · exact endPart_tieHolds (by exact settled) i
        · exact settled
      · exact settled
    · exact settled

theorem pollExpiry_tieHolds (h : s.TieHolds) (i : SiteId) : (pollExpiry i s).TieHolds := by
  unfold pollExpiry
  split
  · dsimp only
    split
    · exact h
    · exact h
  · exact h

theorem siteReady_tieHolds (h : s.TieHolds) (i : SiteId) (r : Round) (status : Byte) :
    (siteReady i r status s).TieHolds := by
  have stopped : (setClocks i Clocks.stopped s).TieHolds := h
  unfold siteReady
  dsimp only
  split
  · split
    · exact endPart_tieHolds (handleEvent_tieHolds stopped i _ _ _) i
    · split
      · exact h
      · exact endPart_tieHolds stopped i
  · exact endPart_tieHolds stopped i

theorem statusLive_tieHolds (h : s.TieHolds) (i : SiteId) (r : Round) (status : Byte) :
    (statusLive i r status s).TieHolds := by
  unfold statusLive
  extract_lets count s1
  have counted : s1.TieHolds := h
  split
  · exact siteReady_tieHolds counted i r status
  · exact counted

theorem statusEvent_tieHolds (h : s.TieHolds) (i : SiteId) (status : Byte) : (statusEvent i status s).TieHolds := by
  have settled := settle_tieHolds h
  unfold statusEvent statusSettled
  split
  · exact endDiscarded_tieHolds h i
  · split
    · split
      · exact statusLive_tieHolds settled i _ status
      · exact settled
    · exact settled

theorem deadlineEvent_tieHolds (h : s.TieHolds) (i : SiteId) : (deadlineEvent i s).TieHolds := by
  unfold deadlineEvent deadlineLive
  split
  · split
    · exact endPart_tieHolds (handleTimeout_tieHolds (by exact h) i _ _ _) i
    · exact h
  · exact h

theorem readByteEvent_tieHolds (h : s.TieHolds) (i : SiteId) (byte : Byte) : (readByteEvent i byte s).TieHolds := by
  unfold readByteEvent
  split
  · split
    · exact h
    · exact h
  · exact h

theorem dataEndEvent_tieHolds (h : s.TieHolds) (i : SiteId) : (dataEndEvent i s).TieHolds := by
  have formed (r : Round) (x : Tally) (p : Position) : (outcomeFormed i r x p s).TieHolds := by
    unfold outcomeFormed
    dsimp only
    split
    · exact endPart_tieHolds (by exact h) i
    · exact endPart_tieHolds (handleEvent_tieHolds (by exact h) i _ p _) i
  unfold dataEndEvent
  split
  · exact endDiscarded_tieHolds h i
  · split
    · split
      · split
        · exact formed _ _ _
        · exact h
      · exact h
    · exact h

/-! ## The events of the tie bus and of the link's lines (R132, R134, R137, R160 to R162) -/

theorem barrierEvent_tieHolds (h : s.TieHolds) (peerVeto : Bool) : (barrierEvent peerVeto s).TieHolds := by
  unfold barrierEvent
  split
  · split
    · exact passBarrier_tieHolds h _ _ _
    · exact h
  · exact h

theorem timeoutEvent_tieHolds (h : s.TieHolds) : (timeoutEvent s).TieHolds := by
  unfold timeoutEvent
  split
  · exact takeStop_tieHolds (requestPull_tieHolds h _)
  · exact h

/-- With STOP pulled by another station a stop is in force, that or an earlier one (R137). -/
theorem stopFallEvent_tieHolds (h : s.TieHolds) : (stopFallEvent s).TieHolds := by
  unfold stopFallEvent
  split
  · next inForce => exact h.withStop _ (by simp [inForce])
  · exact takeStop_tieHolds (h.withStop false (Bool.or_true _).symm)

/-- With STOP pulled by no other station a stop is in force by the own pull alone (R137). -/
theorem stopRiseEvent_tieHolds (h : s.TieHolds) : (stopRiseEvent s).TieHolds := by
  unfold stopRiseEvent
  split
  · next own => exact h.withStop _ (by simp [h.stop, own])
  · next own => exact h.withStop _ (by simp [own])

theorem intervalEvent_tieHolds (h : s.TieHolds) (ticks : Nat) : (intervalEvent ticks s).TieHolds := by
  unfold intervalEvent
  split
  · split
    · exact h
    · exact h
  · exact h

theorem idleEvent_tieHolds (h : s.TieHolds) : (idleEvent s).TieHolds := by
  unfold idleEvent
  split
  · exact h
  · exact h

theorem settlingEndEvent_tieHolds (h : s.TieHolds) : (settlingEndEvent s).TieHolds := by
  unfold settlingEndEvent
  split
  · exact h
  · exact h

theorem settlingEdgeEvent_tieHolds (h : s.TieHolds) : (settlingEdgeEvent s).TieHolds := by
  unfold settlingEdgeEvent
  split
  · exact h
  · exact h

theorem breakEvent_tieHolds (h : s.TieHolds) : (breakEvent s).TieHolds := by
  unfold breakEvent
  split
  · exact h
  · exact h

theorem framingErrorEvent_tieHolds (h : s.TieHolds) : (framingErrorEvent s).TieHolds := by
  unfold framingErrorEvent
  split
  · exact h
  · exact h

/-! ## Run commands (R10, R19 to R24, R139, R140) -/

/-- An accepted START arrives at barrier 0 (R10, R131). -/
theorem startRequest_tieHolds (h : s.TieHolds) : (startRequest s).TieHolds := by
  unfold startRequest
  split
  · split
    · exact h
    · split
      · exact h
      · have begun : (offer .runStart
            { clearCurrent (answer .ok [] s) with log := { s.log with frozen := false } }).TieHolds :=
          offer_tieHolds (by exact h) _
        exact arrive_tieHolds (by exact begun.cleared) _ _
  · exact h

theorem pauseRequest_tieHolds (h : s.TieHolds) : (pauseRequest s).TieHolds := by
  unfold pauseRequest
  split
  all_goals exact h

theorem stepRequest_tieHolds (h : s.TieHolds) : (stepRequest s).TieHolds := by
  unfold stepRequest
  split
  · exact h.outsideQuiet
  · exact h

theorem resumeRequest_tieHolds (h : s.TieHolds) : (resumeRequest s).TieHolds := by
  unfold resumeRequest
  split
  · exact h.outsideQuiet
  · exact h

theorem abortRequest_tieHolds (h : s.TieHolds) : (abortRequest s).TieHolds := by
  unfold abortRequest
  split
  · exact h.resense
  · exact h.abort _

theorem stopAllRequest_tieHolds (h : s.TieHolds) : (stopAllRequest s).TieHolds :=
  takeStop_tieHolds (requestPull_tieHolds (s := answer .ok [] s) h _)

theorem clearResultsRequest_tieHolds (h : s.TieHolds) : (clearResultsRequest s).TieHolds := by
  unfold clearResultsRequest
  split
  · exact h
  · exact h

theorem resetRequest_tieHolds (h : s.TieHolds) : (resetRequest s).TieHolds := h.abort _

theorem powerOn_tieHolds (straps : BitVec 4) (s : State) : (powerOn straps s).TieHolds := Tie.reset_soundIn straps _ _

/-! ## The other requests (R89, R102 to R104, R128, R150, R164 to R171) -/

theorem setupWriteRequest_tieHolds (h : s.TieHolds) (index : Word) (words : List Word) :
    (setupWriteRequest index words s).TieHolds := by
  have stored : (applySetup index.toNat words s).TieHolds := by
    unfold applySetup
    dsimp only
    split
    · exact h
    · exact h
  unfold setupWriteRequest
  split
  · exact h
  · split
    · exact h
    · exact stored

theorem disableSite_tieHolds (h : s.TieHolds) (i : SiteId) : (disableSite i s).TieHolds := by
  unfold disableSite
  dsimp only
  split
  all_goals exact h

theorem applyCfgWord_tieHolds (h : s.TieHolds) (quiet : Bool) (i : Nat) (w : Word) :
    (applyCfgWord quiet i w s).TieHolds := by
  unfold applyCfgWord
  split
  · split
    · split
      · exact h
      · exact h
    · exact disableSite_tieHolds h _
  · exact h

theorem applyCfg_tieHolds (quiet : Bool) (index : Nat) (words : List Word) (h : s.TieHolds) :
    (applyCfg quiet index words s).TieHolds := by
  induction words generalizing index s with
  | nil => exact h
  | cons w rest ih => exact ih (index + 1) (applyCfgWord_tieHolds h quiet index w)

/-- A disable can end the round, and in HALTING the run with it (R56, R90). -/
theorem siteCfgWriteRequest_tieHolds (h : s.TieHolds) (index : Word) (words : List Word) :
    (siteCfgWriteRequest index words s).TieHolds := by
  unfold siteCfgWriteRequest
  split
  · exact h
  · split
    · exact h
    · exact endRoundIfDone_tieHolds (applyCfg_tieHolds _ _ words (by exact h))

theorem preloadRequest_tieHolds (h : s.TieHolds) (i : SiteId) (position : Nat) (words : List Word) :
    (preloadRequest i position words s).TieHolds := by
  unfold preloadRequest
  repeat' split
  all_goals exact h

theorem truncationRequest_tieHolds (h : s.TieHolds) (i : SiteId) (words : List Word) :
    (truncationRequest i words s).TieHolds := by
  unfold truncationRequest
  repeat' split
  all_goals exact h

theorem writeRequest_tieHolds (h : s.TieHolds) (area : Nat) (index : Word) (words : List Word) :
    (writeRequest area index words s).TieHolds := by
  have badList : (badListWriteRequest index.toNat words s).TieHolds := by
    unfold badListWriteRequest
    split
    · exact preloadRequest_tieHolds h _ _ words
    · split
      · exact truncationRequest_tieHolds h _ words
      · split
        · exact h
        · exact h
  have plan : (planWriteRequest index.toNat words s).TieHolds := by
    unfold planWriteRequest
    repeat' split
    all_goals exact h
  have filters : (filtersWriteRequest index.toNat words s).TieHolds := by
    unfold filtersWriteRequest
    repeat' split
    all_goals exact h
  unfold writeRequest
  split
  · exact plan
  · exact setupWriteRequest_tieHolds h index words
  · exact siteCfgWriteRequest_tieHolds h index words
  · exact h
  · exact badList
  · exact filters
  · exact h
  · exact h

theorem readRequest_tieHolds (h : s.TieHolds) (area : Nat) (index : Word) (n : Nat) :
    (readRequest area index n s).TieHolds := by
  unfold readRequest
  split
  · exact h
  · split
    · exact h
    · exact h

/-- Headroom takes a stalled runner back to RUNNING, from one state that is not quiet to another (R12, R150). -/
theorem drainRequest_tieHolds (h : s.TieHolds) (ring : Word) (count : Nat) : (drainRequest ring count s).TieHolds := by
  have reported (u : State) (hu : u.TieHolds) : (reportHeadroom u).TieHolds := by
    unfold reportHeadroom
    split
    · exact hu.outsideQuiet
    · exact hu
  unfold drainRequest
  split
  · exact reported _ h
  · split
    · exact h
    · exact reported _ h
  · exact h

theorem enlistRequest_tieHolds (h : s.TieHolds) (value : Word) : (enlistRequest value s).TieHolds := by
  unfold enlistRequest
  split
  · exact h
  · split
    · exact h
    · split
      · exact h
      · split
        · exact h.enlisted
        · exact h.leftOut

/-! ## Frames of the link (R163 to R165, R168) -/

theorem controlRequest_tieHolds (h : s.TieHolds) (code : Nat) : (controlRequest code s).TieHolds := by
  unfold controlRequest
  split
  · exact startRequest_tieHolds h
  · exact pauseRequest_tieHolds h
  · exact stepRequest_tieHolds h
  · exact resumeRequest_tieHolds h
  · exact abortRequest_tieHolds h
  · exact stopAllRequest_tieHolds h
  · exact clearResultsRequest_tieHolds h
  · exact resetRequest_tieHolds h
  · exact h

/-- A byte joins the frame, or completes it and brings its request (R163). -/
theorem byteEvent_tieHolds (h : s.TieHolds) (byte : Byte) : (byteEvent byte s).TieHolds := by
  have request (kind area : Nat) (index : Word) (n : Nat) (payload : List Word) :
      (frameRequest kind area index n payload s).TieHolds := by
    unfold frameRequest
    split
    · exact writeRequest_tieHolds h area index payload
    · exact readRequest_tieHolds h area index n
    · exact drainRequest_tieHolds h index n
    · exact controlRequest_tieHolds h _
    · exact enlistRequest_tieHolds h _
    · exact h
    · exact h
    · exact h
  unfold byteEvent assemble
  split
  · split
    · split
      · exact request _ _ _ _ _
      · exact h
    · exact h
  · exact h

end

/-! ## Every command -/

theorem exec_tieHolds {s t : State} (c : Instr) (h : s.TieHolds) (answered : exec c s = .next t) : t.TieHolds := by
  have settled := settle_tieHolds h
  have request {op : State → State} (keeps : ∀ u, u.TieHolds → (op u).TieHolds) : (onRequest op s).TieHolds :=
    onRequest_keeps h keeps
  cases c with
  | start => exact keeps_of_next answered (request fun _ => startRequest_tieHolds)
  | pause => exact keeps_of_next answered (request fun _ => pauseRequest_tieHolds)
  | stepRun => exact keeps_of_next answered (request fun _ => stepRequest_tieHolds)
  | resume => exact keeps_of_next answered (request fun _ => resumeRequest_tieHolds)
  | abort => exact keeps_of_next answered (request fun _ => abortRequest_tieHolds)
  | stopAll => exact keeps_of_next answered (request fun _ => stopAllRequest_tieHolds)
  | clearResults => exact keeps_of_next answered (request fun _ => clearResultsRequest_tieHolds)
  | reset => exact keeps_of_next answered (request fun _ => resetRequest_tieHolds)
  | responseEnd => exact keeps_of_next answered h
  | setupWrite index words =>
    exact keeps_of_wellFormed answered (request fun _ hu => setupWriteRequest_tieHolds hu index words)
  | siteCfgWrite index words =>
    exact keeps_of_wellFormed answered (request fun _ hu => siteCfgWriteRequest_tieHolds hu index words)
  | preload site position words =>
    exact keeps_of_wellFormed answered (request fun _ hu => preloadRequest_tieHolds hu site _ words)
  | truncation site words =>
    exact keeps_of_wellFormed answered (request fun _ hu => truncationRequest_tieHolds hu site words)
  | write area index words =>
    exact keeps_of_wellFormed answered (request fun _ hu => writeRequest_tieHolds hu _ index words)
  | drain ring count => exact keeps_of_wellFormed answered (request fun _ hu => drainRequest_tieHolds hu ring count)
  | enlist value => exact keeps_of_next answered (request fun _ hu => enlistRequest_tieHolds hu value)
  | ack causes => exact keeps_of_next answered (request fun _ hu => hu)
  | probe => exact keeps_of_next answered (request fun _ hu => hu)
  | powerOnReset straps => exact keeps_of_next answered (powerOn_tieHolds straps s)
  | eligibleInterval ticks => exact keeps_of_next answered (intervalEvent_tieHolds h ticks)
  | lineIdleTimeout => exact keeps_of_next answered (idleEvent_tieHolds h)
  | settlingEnd => exact keeps_of_next answered (settlingEndEvent_tieHolds h)
  | lineBreak => exact keeps_of_next answered (breakEvent_tieHolds h)
  | framingError => exact keeps_of_next answered (framingErrorEvent_tieHolds h)
  | frameGapTimeout => exact keeps_of_next answered h
  | barrierPass peerVeto => exact keeps_of_next answered (barrierEvent_tieHolds settled peerVeto)
  | issue site => exact keeps_of_next answered (issueEvent_tieHolds h site)
  | pollTimerExpiry site => exact keeps_of_next answered (pollExpiry_tieHolds settled site)
  | statusResult site status => exact keeps_of_next answered (statusEvent_tieHolds h site status)
  | deadlineExpiry site => exact keeps_of_next answered (deadlineEvent_tieHolds settled site)
  | dataPartEnd site => exact keeps_of_next answered (dataEndEvent_tieHolds h site)
  | discardedTransactionEnd site => exact keeps_of_next answered (discardedEnd_tieHolds h site)
  | rendezvousTimeout => exact keeps_of_next answered (timeoutEvent_tieHolds settled)
  | stopFall => exact keeps_of_next answered (stopFallEvent_tieHolds h)
  | stopRise => exact keeps_of_next answered (stopRiseEvent_tieHolds h)
  | byteTaken byte => exact keeps_of_next answered (byteEvent_tieHolds h byte)
  | settlingEdge => exact keeps_of_next answered (settlingEdgeEvent_tieHolds h)
  | readByte site byte => exact keeps_of_next answered (readByteEvent_tieHolds h site byte)
  | unknownRequestFrame => exact keeps_of_next answered (request fun _ hu => hu)

/-- One step keeps the Tie Port sound. -/
theorem step_tieHolds {s t : State} (h : s.TieHolds) (answered : step s = .next t) : t.TieHolds :=
  step_induction (P := State.TieHolds) (fun _ _ hs => hs) (fun c _ _ hs => exec_tieHolds c hs)
    (fun _ => advance_tieHolds) (fun _ => tick_tieHolds) h answered

/-! ## ENLIST (R128, R164) -/

theorem exec_enlist {s : State} (h : s.linkTakes = true) (value : Word) :
    exec (.enlist value) s = .next (enlistRequest value s) :=
  congrArg Host.Outcome.next (onRequest_of_takes h _)

end Sys2Proof.Machine

open Sys2Proof Sys2Proof.Machine

/-- Settles O10: every command, every piece of the runner's work and every µs keeps the Tie Port's record sound for the
runner's state. -/
theorem tieStaysSound : Obligations.TieStaysSound := fun s t h answered =>
  t.tieSound_iff.mpr (step_tieHolds (s.tieSound_iff.mp h) answered)

/-- Settles O33: the refusals in R164's order, then the record and the drive of the lines for yes and for no. -/
theorem enlistOnceInIdle : Obligations.EnlistOnceInIdle := by
  intro s value takes
  rw [exec_enlist takes, enlistRequest]
  refine ⟨fun above => ?_, fun small locked => ?_, fun small unlocked hstate => ?_, fun yes unlocked idle => ?_,
    fun no unlocked idle => ?_⟩
  · rw [if_pos above]
  · rw [if_neg (by omega), if_pos locked]
  · rw [if_neg (by omega), if_neg (by simp [unlocked]), if_pos (by simp [hstate])]
  · subst yes
    rw [if_neg (by decide), if_neg (by simp [unlocked]), if_neg (by simp [idle]), if_pos (by decide)]
    exact ⟨_, rfl, rfl, rfl, rfl⟩
  · subst no
    rw [if_neg (by decide), if_neg (by simp [unlocked]), if_neg (by simp [idle]), if_neg (by decide)]
    exact ⟨_, rfl, rfl, rfl⟩
end

section
/-! PROOFS. Sound rings: each way to write a ring keeps it sound, so does each piece of the runner's work, each event
and each request, and so does every step. -/
namespace Sys2Proof.Machine

/-! ## One ring (R144 to R146, R150) -/

section
variable {r : Ring} {capacity : Nat}

/-- A drained ring holds the newest of its records, with their sequence numbers (R150). -/
theorem Ring.Sound.drop (h : r.Sound capacity) (hcapacity : capacity ≤ 65535) {m : Nat}
    (hm : m ≤ r.records.length) : (r.drop capacity m).Sound capacity := by
  obtain ⟨count, oldest, next, sequences⟩ := h
  have length : (r.records.drop m).length = r.records.length - m := List.length_drop
  refine ⟨?_, Nat.mod_lt _ (by omega), next, fun k hk => ?_⟩
  · rw [Ring.drop, length]
    omega
  · simp only [Ring.drop, length] at hk ⊢
    rw [List.getElem_drop, sequences (m + k) (by omega)]
    omega

/-- A ring with a record put behind its newest one. -/
def Ring.append (r : Ring) (station : BitVec 4) (b : RecordBody) : Ring :=
  { r with
    records := r.records ++ [{ sequence := r.next, station := station, body := b }]
    next := (r.next + 1) % 65536 }

/-- A full ring loses its oldest record first (R145, R146). -/
theorem Ring.store_eq_append (r : Ring) (capacity : Nat) (station : BitVec 4) (b : RecordBody) :
    r.store capacity station b =
      (if r.records.length < capacity then r else r.drop capacity 1).append station b := by
  unfold Ring.store
  dsimp only
  split
  · rfl
  · rw [← List.drop_one]
    rfl

/-- The new record takes the next sequence, the others keep theirs (R145). -/
theorem Ring.Sound.append (h : r.Sound capacity) (hcapacity : capacity ≤ 65535) (room : r.records.length < capacity)
    (station : BitVec 4) (b : RecordBody) : (r.append station b).Sound capacity := by
  obtain ⟨count, oldest, next, sequences⟩ := h
  refine ⟨by simpa [Ring.append] using room, oldest, Nat.mod_lt _ (by decide), fun k hk => ?_⟩
  simp only [Ring.append, List.length_append, List.length_singleton] at hk ⊢
  rw [List.getElem_append]
  split
  · next held =>
    rw [sequences k held]
    omega
  · rw [List.getElem_singleton]
    show r.next = _
    omega

theorem Ring.Sound.store (h : r.Sound capacity) (hcapacity : capacity ≤ 65535) (station : BitVec 4) (b : RecordBody) :
    (r.store capacity station b).Sound capacity := by
  have positive := h.oldest
  rw [Ring.store_eq_append]
  split
  · next room => exact h.append hcapacity room station b
  · next full =>
    have shorter : (r.drop capacity 1).records.length < capacity := by
      have count := h.count
      rw [Ring.drop, List.length_drop]
      omega
    exact (h.drop hcapacity (by omega)).append hcapacity shorter station b

theorem ringCapacity_pos (m : LogMode) : 0 < ringCapacity m := by cases m <;> decide

theorem ringCapacity_le (m : LogMode) : ringCapacity m ≤ 65535 := by cases m <;> decide

end

/-! ## The log of a state (R144, R148, R149, R152) -/

section
variable {s : State}

/-- The soundness of the log by the mode (R144). -/
theorem State.logSound_iff (s : State) : s.LogSound ↔ s.log.ring0.Sound (ringCapacity s.setup.logMode) ∧
    (s.setup.logMode = .unified → s.log.ring1 = Ring.empty) ∧
    (s.setup.logMode = .split → s.log.ring1.Sound 1024) := by
  unfold State.LogSound
  cases s.setup.logMode with
  | unified => simp
  | split => simp

/-- In UNIFIED every record goes to ring 0 (R144). -/
theorem offer_logSound (h : s.LogSound) (b : RecordBody) : (offer b s).LogSound := by
  rcases offer_cases b s with ⟨_, discarded⟩ | ⟨_, _, _, ⟨toRing1, stored⟩ | ⟨_, stored⟩⟩
  · rw [discarded]
    exact h
  · rw [stored]
    obtain ⟨ring0, _, ring1⟩ := s.logSound_iff.mp h
    refine (State.logSound_iff _).mpr ⟨ring0, fun unified => ?_, fun split => ?_⟩
    · have mode : s.setup.logMode = .unified := unified
      simp [mode, goesToRing1] at toRing1
    · have mode : s.setup.logMode = .split := split
      rw [mode]
      exact (ring1 mode).store (by decide) s.tie.station b
  · rw [stored]
    exact ⟨h.1.store (ringCapacity_le _) s.tie.station b, h.2⟩

theorem offerAll_logSound (bs : List RecordBody) (h : s.LogSound) : (offerAll bs s).LogSound := by
  induction bs generalizing s with
  | nil => exact h
  | cons b rest ih => exact ih (offer_logSound h b)

/-- Empty rings are sound in either mode (R148, R152). -/
theorem emptyRings_logSound (s : State) : (emptyRings s).LogSound := by
  exact (State.logSound_iff _).mpr
    ⟨Ring.empty_sound (ringCapacity_pos _), fun _ => rfl, fun _ => Ring.empty_sound (by decide)⟩

theorem freezeNotice_logSound (h : s.LogSound) : (freezeNotice s).LogSound := by
  rw [freezeNotice_eq]
  exact h

/-! ## Halts, stops and the handling of events (R17, R18, R81, R86, R118, R136, R137) -/

theorem enterHalted_logSound (h : s.LogSound) (cause : Option HaltCause) : (enterHalted cause s).LogSound := by
  unfold enterHalted
  exact freezeNotice_logSound (s := setCause .halted _) (offer_logSound (by exact h) _)

theorem enterDone_logSound (h : s.LogSound) (way : EndWay) : (enterDone way s).LogSound := by
  unfold enterDone
  exact offer_logSound (by exact h) _

theorem runnerStop_logSound (h : s.LogSound) (cause : HaltCause) : (runnerStop cause s).LogSound := by
  rcases runnerStop_cases cause s with ⟨_, _, halting⟩ | ⟨_, _, between⟩ | ⟨_, halted⟩ | ⟨_, kept⟩
  · rw [halting]
    exact freezeNotice_logSound (by exact h)
  · rw [between]
    rcases stopBetweenRounds_cases cause s with ⟨_, _, held⟩ | ⟨_, halted⟩
    · rw [held]
      exact h
    · rw [halted]
      exact enterHalted_logSound h _
  · rw [halted]
    exact enterHalted_logSound h _
  · rw [kept]
    exact h

theorem takeStop_logSound (h : s.LogSound) : (takeStop s).LogSound := by
  rcases takeStop_cases s with ⟨_, kept⟩ | ⟨_, _, _, taken⟩
  · rw [kept]
    exact h
  · rw [taken]
    exact runnerStop_logSound (by exact h) _

/-- A handling at a site writes the log by offers only. -/
theorem ActsAt.logSound {i : SiteId} {t : State} (acts : ActsAt i s t) (h : s.LogSound) : t.LogSound := by
  obtain ⟨e, rfl⟩ := acts
  exact offerAll_logSound e.records h

theorem ActsAt.trialEvent {i : SiteId} {t : State} (acts : ActsAt i s t) (c : Condition) :
    ActsAt i s (trialEvent i c t) := by
  rcases trialEvent_cases i c t with dropped | flagged
  · rw [dropped]
    exact acts
  · rw [flagged]
    exact acts.modifySite _

/-- A classified event acts at its site in trial mode too (R86, R159). -/
theorem handleEvent_actsAt (i : SiteId) (e : SiteEvent) (p : Position) (trial : Bool) (s : State) :
    ActsAt i s (handleEvent i e p trial s) := by
  have untouched := ActsAt.refl i s
  cases trial with
  | false => exact untouched.handleEvent e p
  | true =>
    unfold handleEvent handleTrial
    dsimp only
    split
    · exact untouched
    · rw [if_pos rfl]
      split
      · exact (untouched.trialEvent _).offer _
      · exact untouched.trialEvent _

theorem handleTimeout_actsAt (i : SiteId) (block page : Option Nat) (trial : Bool) (s : State) :
    ActsAt i s (handleTimeout i block page trial s) := by
  cases trial with
  | false => exact (ActsAt.refl i s).handleTimeout block page
  | true => exact (ActsAt.refl i s).trialEvent _

/-! ## The end of steps, rounds and searches (R13, R29, R56, R119) -/

theorem goTo_logSound (h : s.LogSound) (index : Nat) : (goTo index s).LogSound := by
  rcases goTo_cases index s with ⟨_, next⟩ | ⟨_, past⟩
  · rw [next]
    exact h
  · rw [past]
    exact enterDone_logSound h _

theorem workDone_logSound (h : s.LogSound) : (workDone s).LogSound := by
  have completed : (completeStep s).LogSound := goTo_logSound h _
  unfold workDone
  repeat' split
  · exact h
  · exact h
  · exact completed
  · exact completed

theorem completeSearch_logSound (h : s.LogSound) : (completeSearch s).LogSound := by
  unfold completeSearch
  split
  · exact goTo_logSound (by exact h) _
  · exact h

theorem afterRound_logSound (h : s.LogSound) (a : Ask) : (afterRound a s).LogSound := by
  have swept : (sweepRoundEnded s).LogSound := by
    unfold sweepRoundEnded
    repeat' split
    · exact h
    · exact workDone_logSound (by exact h)
    · exact workDone_logSound h
  cases a with
  | sweep => exact swept
  | poll => exact workDone_logSound h
  | trim => exact workDone_logSound h
  | trialCode => exact h
  | finalTrim => exact completeSearch_logSound h

theorem endRound_logSound (h : s.LogSound) : (endRound s).LogSound := by
  rcases endRound_cases s with ⟨_, halted⟩ | ⟨_, a, _, goesOn⟩ | ⟨_, _, ended⟩
  · rw [halted]
    exact enterHalted_logSound (by exact h) _
  · rw [goesOn]
    exact afterRound_logSound (by exact h) a
  · rw [ended]
    exact h

theorem endRoundIfDone_logSound (h : s.LogSound) : (endRoundIfDone s).LogSound := by
  rcases endRoundIfDone_cases s with ⟨_, _, done⟩ | ⟨_, waits⟩
  · rw [done]
    exact endRound_logSound h
  · rw [waits]
    exact h

theorem afterResults_logSound (h : s.LogSound) (c : Search) : (afterResults c s).LogSound := by
  rcases afterResults_cases c s with ⟨_, _, halted⟩ | ⟨_, _, asked⟩ | ⟨_, _, complete⟩
  · rw [halted]
    exact enterHalted_logSound h _
  · rw [asked]
    exact h
  · rw [complete]
    exact completeSearch_logSound h

theorem handOutOn_logSound (h : s.LogSound) (c : Search) : (handOutOn c s).LogSound := by
  rcases handOutOn_cases c s with ⟨_, done⟩ | ⟨_, goesOn⟩
  · rw [done]
    exact afterResults_logSound h c
  · rw [goesOn]
    exact h

/-! ## Trials and barriers (R16, R112 to R116, R131 to R133) -/

/-- After a trial another one follows, or the trials are done (R114). -/
theorem decideNext_cases (c : Search) (s : State) :
    (∃ set, decideNext c s = nextTrial c set s) ∨ decideNext c s = finishTrials c s := by
  unfold decideNext
  repeat' split
  · exact .inl ⟨_, rfl⟩
  · exact .inr rfl
  · exact .inl ⟨_, rfl⟩
  · exact .inl ⟨_, rfl⟩
  · exact .inr rfl
  · exact .inr rfl

theorem decideNext_logSound (h : s.LogSound) (c : Search) : (decideNext c s).LogSound := by
  rcases decideNext_cases c s with ⟨_, further⟩ | finished
  · rw [further]
    exact h
  · rw [finished]
    exact handOutOn_logSound (by exact h) _

theorem trialPassed_logSound (h : s.LogSound) (combined : Verdict) (barrier : Nat) :
    (trialPassed combined barrier s).LogSound := by
  unfold trialPassed
  split
  · exact decideNext_logSound (offer_logSound (by exact h) _) _
  · exact h

theorem passBarrier_logSound (h : s.LogSound) (w : Wait) (sampled : Verdict) (waited : Nat) :
    (passBarrier w sampled waited s).LogSound := by
  have passed : (s.passed w sampled waited).LogSound := by
    unfold State.passed
    split
    · exact offer_logSound (by exact h) _
    · exact h
  rw [passBarrier_eq]
  cases w.kind with
  | start => exact passed
  | rendezvous => exact workDone_logSound passed
  | trial => exact trialPassed_logSound passed _ _

theorem arrive_logSound (h : s.LogSound) (kind : BarrierKind) (vote : Option Verdict) :
    (arrive kind vote s).LogSound := by
  rcases arrive_cases kind vote s with ⟨_, waits⟩ | ⟨_, passes⟩
  · rw [waits]
    exact h
  · rw [passes]
    exact passBarrier_logSound (by exact h) _ _ _

theorem foldl_offerTrialResult_logSound (c : Search) (sites : List SiteId) (h : s.LogSound) :
    (sites.foldl (offerTrialResult c) s).LogSound := by
  induction sites generalizing s with
  | nil => exact h
  | cons i rest ih => exact ih (offer_logSound h _)

theorem closeTrial_logSound (h : s.LogSound) : (closeTrial s).LogSound := by
  unfold closeTrial
  repeat' split
  · exact h
  · exact decideNext_logSound (foldl_offerTrialResult_logSound _ _ (by exact h)) _
  · exact arrive_logSound (by exact h) _ _
  · exact h

/-! ## The runner's work (R11 to R15, R42, R110, R118) -/

theorem formRound_logSound (h : s.LogSound) (a : Ask) (w : RoundWork) (admits : SiteId → Bool) :
    (formRound a w admits s).LogSound :=
  endRoundIfDone_logSound (s := s.formed a w admits) h

theorem askRound_logSound (h : s.LogSound) (a : Ask) : (askRound a s).LogSound := by
  unfold askRound requestRound requestSweepRound
  repeat' split
  any_goals exact h
  all_goals exact formRound_logSound (by exact h) _ _ _

theorem handOutNext_logSound (h : s.LogSound) : (handOutNext s).LogSound := by
  unfold handOutNext
  repeat' split
  · refine handOutOn_logSound (takeStop_logSound ?_) _
    rw [handOutSite_handled]
    exact ActsAt.logSound ⟨_, rfl⟩ (by exact h)
  · exact afterResults_logSound h _
  · exact h

theorem stepWork_logSound (h : s.LogSound) : (stepWork s).LogSound := by
  unfold stepWork
  split
  · next step _ =>
    cases step.body with
    | endStep => exact enterDone_logSound h _
    | sweep f => exact h
    | poll mask expected count deadline => exact h
    | trim address source => exact h
    | search f => exact h
    | rendezvous => exact arrive_logSound h _ _
    | repeatStep span count =>
      unfold repeatWork
      dsimp only
      split
      · exact goTo_logSound (by exact h) _
      · exact h
    | marker => exact workDone_logSound (offer_logSound h _)
  · exact h

theorem beginStep_logSound (h : s.LogSound) : (beginStep s).LogSound := by
  unfold beginStep
  dsimp only
  split
  · next step _ =>
    have noted : (if step.note then offer (.stepBegin s.runner.stepIndex step.label) (clearCurrent s)
        else clearCurrent s).LogSound := by
      split
      · exact offer_logSound (by exact h) _
      · exact h
    split
    · split
      · exact noted
      · exact stepWork_logSound noted
    · exact stepWork_logSound noted
  · exact h

theorem boundary_logSound (h : s.LogSound) : (boundary s).LogSound := by
  rcases boundary_cases s with ⟨_, paused⟩ | ⟨_, _, stalled⟩ | ⟨_, _, _, _, halted⟩ | ⟨_, _, _, passed⟩
  · rw [paused]
    exact h
  · rw [stalled]
    exact h
  · rw [halted]
    exact enterHalted_logSound h _
  · rw [passed]
    exact h

/-- One piece of the runner's work (log entry 39). -/
theorem advance_logSound (h : s.LogSound) : (advance s).LogSound := by
  unfold advance
  split
  · exact boundary_logSound h
  · exact beginStep_logSound h
  · exact stepWork_logSound h
  · exact askRound_logSound h _
  · exact closeTrial_logSound h
  · exact handOutNext_logSound h
  all_goals exact h

theorem settle_logSound (h : s.LogSound) : (settle s).LogSound :=
  settle_induction (P := State.LogSound) (fun _ ht _ => advance_logSound ht) h

/-- A µs writes no ring (R134, R142). -/
theorem tick_logSound (h : s.LogSound) : (tick s).LogSound := by
  rw [tick_frame]
  exact h

/-! ## The events of the ports (R44 to R53) -/

theorem endPart_logSound (h : s.LogSound) (i : SiteId) : (endPart i s).LogSound :=
  endRoundIfDone_logSound (s := modifySite i Site.leaveRound (takeStop s)) (takeStop_logSound h)

theorem endDiscarded_logSound (h : s.LogSound) (i : SiteId) : (endDiscarded i s).LogSound := by
  rw [endDiscarded_eq]
  exact h

theorem issueEvent_logSound (h : s.LogSound) (i : SiteId) : (issueEvent i s).LogSound := by
  have settled := settle_logSound h
  unfold issueEvent issueSettled issueLive
  dsimp only
  repeat' split
  · exact endDiscarded_logSound h i
  · exact endPart_logSound (by exact settled) i
  all_goals exact settled

theorem siteReady_logSound (h : s.LogSound) (i : SiteId) (r : Round) (status : Byte) :
    (siteReady i r status s).LogSound := by
  have stopped : (setClocks i Clocks.stopped s).LogSound := h
  unfold siteReady
  dsimp only
  repeat' split
  · exact endPart_logSound ((handleEvent_actsAt ..).logSound stopped) i
  · exact h
  · exact endPart_logSound stopped i
  · exact endPart_logSound stopped i

theorem statusEvent_logSound (h : s.LogSound) (i : SiteId) (status : Byte) : (statusEvent i status s).LogSound := by
  have live (r : Round) (u : State) (hu : u.LogSound) : (statusLive i r status u).LogSound := by
    unfold statusLive
    extract_lets count counted
    split
    · exact siteReady_logSound (by exact hu) i r status
    · exact hu
  have settled := settle_logSound h
  unfold statusEvent statusSettled
  repeat' split
  · exact endDiscarded_logSound h i
  · exact live _ _ settled
  all_goals exact settled

theorem deadlineEvent_logSound (h : s.LogSound) (i : SiteId) : (deadlineEvent i s).LogSound := by
  unfold deadlineEvent deadlineLive
  repeat' split
  · exact endPart_logSound ((handleTimeout_actsAt ..).logSound (by exact h)) i
  all_goals exact h

theorem dataEndEvent_logSound (h : s.LogSound) (i : SiteId) : (dataEndEvent i s).LogSound := by
  have formed (r : Round) (x : Tally) (p : Position) : (outcomeFormed i r x p s).LogSound := by
    unfold outcomeFormed
    dsimp only
    split
    · exact endPart_logSound (by exact h) i
    · exact endPart_logSound ((handleEvent_actsAt ..).logSound (by exact h)) i
  unfold dataEndEvent
  repeat' split
  · exact endDiscarded_logSound h i
  · exact formed _ _ _
  all_goals exact h

/-! ## The events of the tie bus (R132, R134, R137) -/

theorem barrierEvent_logSound (h : s.LogSound) (peerVeto : Bool) : (barrierEvent peerVeto s).LogSound := by
  unfold barrierEvent
  repeat' split
  · exact passBarrier_logSound h _ _ _
  all_goals exact h

theorem timeoutEvent_logSound (h : s.LogSound) : (timeoutEvent s).LogSound := by
  unfold timeoutEvent
  split
  · rw [requestPull_eq]
    exact takeStop_logSound (by exact h)
  · exact h

theorem stopFallEvent_logSound (h : s.LogSound) : (stopFallEvent s).LogSound := by
  unfold stopFallEvent
  split
  · exact h
  · exact takeStop_logSound (by exact h)

/-! ## The requests that offer records, or empty or drain a ring (R10, R23, R24, R90, R148, R150, R152) -/

theorem startRequest_logSound (h : s.LogSound) : (startRequest s).LogSound := by
  unfold startRequest
  repeat' split
  · exact h
  · exact h
  · have begun : (offer .runStart
        { clearCurrent (answer .ok [] s) with log := { s.log with frozen := false } }).LogSound :=
      offer_logSound (by exact h) _
    exact arrive_logSound (by exact begun) _ _
  · exact h

theorem abortRequest_logSound (h : s.LogSound) : (abortRequest s).LogSound := by
  unfold abortRequest
  split
  · exact h
  · exact h

theorem stopAllRequest_logSound (h : s.LogSound) : (stopAllRequest s).LogSound := by
  rw [stopAllRequest, requestPull_eq]
  exact takeStop_logSound (by exact h)

theorem clearResultsRequest_logSound (h : s.LogSound) : (clearResultsRequest s).LogSound := by
  unfold clearResultsRequest
  split
  · exact emptyRings_logSound _
  · exact h

theorem resetRequest_logSound (s : State) : (resetRequest s).LogSound := State.reset_logSound

theorem powerOn_logSound (straps : BitVec 4) (s : State) : (powerOn straps s).LogSound := State.reset_logSound

/-- Setup is stored, and the rings are emptied when the mode or the policy changes (R148, R171). -/
theorem applySetup_cases (index : Nat) (words : List Word) (s : State) :
    let g := storeSetup s.setup index words
    (g.logMode = s.setup.logMode ∧ g.logPolicy = s.setup.logPolicy ∧
      applySetup index words s = { s with setup := g }) ∨
    ((g.logMode ≠ s.setup.logMode ∨ g.logPolicy ≠ s.setup.logPolicy) ∧
      applySetup index words s = emptyRings { s with setup := g }) := by
  intro g
  by_cases mode : g.logMode = s.setup.logMode
  · by_cases policy : g.logPolicy = s.setup.logPolicy
    · exact .inl ⟨mode, policy, by simp [applySetup, g, mode, policy]⟩
    · exact .inr ⟨.inr policy, by simp [applySetup, g, mode, policy]⟩
  · exact .inr ⟨.inl mode, by simp [applySetup, g, mode]⟩

/-- A change of the log mode changes the capacity, and the rings are emptied with it (R144, R148). -/
theorem applySetup_logSound (h : s.LogSound) (index : Nat) (words : List Word) :
    (applySetup index words s).LogSound := by
  rcases applySetup_cases index words s with ⟨mode, _, kept⟩ | ⟨_, emptied⟩
  · rw [kept, State.LogSound, mode]
    exact h
  · rw [emptied]
    exact emptyRings_logSound _

theorem setupWriteRequest_logSound (h : s.LogSound) (index : Word) (words : List Word) :
    (setupWriteRequest index words s).LogSound := by
  unfold setupWriteRequest
  repeat' split
  · exact h
  · exact h
  · exact applySetup_logSound h _ words

theorem applyCfg_logSound (quiet : Bool) (index : Nat) (words : List Word) (h : s.LogSound) :
    (applyCfg quiet index words s).LogSound := by
  have one (i : Nat) (w : Word) (u : State) (hu : u.LogSound) : (applyCfgWord quiet i w u).LogSound := by
    unfold applyCfgWord disableSite
    dsimp only
    repeat' split
    all_goals exact hu
  induction words generalizing index s with
  | nil => exact h
  | cons w rest ih => exact ih (index + 1) (one index w s h)

/-- A disable can end the round, and in HALTING the run with it, which offers a record (R56, R90). -/
theorem siteCfgWriteRequest_logSound (h : s.LogSound) (index : Word) (words : List Word) :
    (siteCfgWriteRequest index words s).LogSound := by
  unfold siteCfgWriteRequest
  repeat' split
  · exact h
  · exact h
  · exact endRoundIfDone_logSound (applyCfg_logSound _ _ words (by exact h))

theorem drainRequest_logSound (h : s.LogSound) (ring : Word) (count : Nat) :
    (drainRequest ring count s).LogSound := by
  have reported (u : State) (hu : u.LogSound) : (reportHeadroom u).LogSound := by
    unfold reportHeadroom
    split
    · exact hu
    · exact hu
  unfold drainRequest
  split
  · exact reported _ ⟨h.1.drop (ringCapacity_le _) (drainCount_le _ _), h.2⟩
  · split
    · exact h
    · next mode =>
      obtain ⟨ring0, _, ring1⟩ := s.logSound_iff.mp h
      refine reported _ ((State.logSound_iff _).mpr ⟨ring0, fun unified => ?_, fun _ => ?_⟩)
      · exact absurd (mode.symm.trans unified) (by decide)
      · dsimp only [answer_log]
        rw [mode]
        exact (ring1 mode).drop (by decide) (drainCount_le _ _)
  · exact h

/-! ## The other events and requests, which leave the log and Setup alone -/

theorem discardedEnd_logSound (h : s.LogSound) (i : SiteId) : (discardedEnd i s).LogSound := by
  unfold discardedEnd
  split
  · exact endDiscarded_logSound h i
  · exact h

theorem pollExpiry_logSound (h : s.LogSound) (i : SiteId) : (pollExpiry i s).LogSound := by
  unfold pollExpiry
  dsimp only
  repeat' split
  all_goals exact h

theorem readByteEvent_logSound (h : s.LogSound) (i : SiteId) (byte : Byte) : (readByteEvent i byte s).LogSound := by
  unfold readByteEvent
  repeat' split
  all_goals exact h

theorem stopRiseEvent_logSound (h : s.LogSound) : (stopRiseEvent s).LogSound := by
  unfold stopRiseEvent
  split
  · exact h
  · exact h

theorem intervalEvent_logSound (h : s.LogSound) (ticks : Nat) : (intervalEvent ticks s).LogSound := by
  unfold intervalEvent
  repeat' split
  all_goals exact h

theorem idleEvent_logSound (h : s.LogSound) : (idleEvent s).LogSound := by
  unfold idleEvent
  split
  · exact h
  · exact h

theorem settlingEndEvent_logSound (h : s.LogSound) : (settlingEndEvent s).LogSound := by
  unfold settlingEndEvent
  split
  · exact h
  · exact h

theorem settlingEdgeEvent_logSound (h : s.LogSound) : (settlingEdgeEvent s).LogSound := by
  unfold settlingEdgeEvent
  split
  · exact h
  · exact h

theorem breakEvent_logSound (h : s.LogSound) : (breakEvent s).LogSound := by
  unfold breakEvent
  split
  · exact h
  · exact h

theorem framingErrorEvent_logSound (h : s.LogSound) : (framingErrorEvent s).LogSound := by
  unfold framingErrorEvent
  split
  · exact h
  · exact h

theorem pauseRequest_logSound (h : s.LogSound) : (pauseRequest s).LogSound := by
  unfold pauseRequest
  split
  all_goals exact h

theorem stepRequest_logSound (h : s.LogSound) : (stepRequest s).LogSound := by
  unfold stepRequest
  split
  · exact h
  · exact h

theorem resumeRequest_logSound (h : s.LogSound) : (resumeRequest s).LogSound := by
  unfold resumeRequest
  split
  · exact h
  · exact h

theorem preloadRequest_logSound (h : s.LogSound) (i : SiteId) (position : Nat) (words : List Word) :
    (preloadRequest i position words s).LogSound := by
  unfold preloadRequest
  repeat' split
  all_goals exact h

theorem truncationRequest_logSound (h : s.LogSound) (i : SiteId) (words : List Word) :
    (truncationRequest i words s).LogSound := by
  unfold truncationRequest
  repeat' split
  all_goals exact h

theorem readRequest_logSound (h : s.LogSound) (area : Nat) (index : Word) (n : Nat) :
    (readRequest area index n s).LogSound := by
  unfold readRequest
  repeat' split
  all_goals exact h

theorem enlistRequest_logSound (h : s.LogSound) (value : Word) : (enlistRequest value s).LogSound := by
  unfold enlistRequest
  repeat' split
  all_goals exact h

/-! ## Frames of the link (R163 to R165, R168) -/

theorem writeRequest_logSound (h : s.LogSound) (area : Nat) (index : Word) (words : List Word) :
    (writeRequest area index words s).LogSound := by
  have badList : (badListWriteRequest index.toNat words s).LogSound := by
    unfold badListWriteRequest
    repeat' split
    · exact preloadRequest_logSound h _ _ words
    · exact truncationRequest_logSound h _ words
    · exact h
    · exact h
  have plan : (planWriteRequest index.toNat words s).LogSound := by
    unfold planWriteRequest
    repeat' split
    all_goals exact h
  have filters : (filtersWriteRequest index.toNat words s).LogSound := by
    unfold filtersWriteRequest
    repeat' split
    all_goals exact h
  unfold writeRequest
  split
  · exact plan
  · exact setupWriteRequest_logSound h index words
  · exact siteCfgWriteRequest_logSound h index words
  · exact h
  · exact badList
  · exact filters
  · exact h
  · exact h

theorem controlRequest_logSound (h : s.LogSound) (code : Nat) : (controlRequest code s).LogSound := by
  unfold controlRequest
  split
  · exact startRequest_logSound h
  · exact pauseRequest_logSound h
  · exact stepRequest_logSound h
  · exact resumeRequest_logSound h
  · exact abortRequest_logSound h
  · exact stopAllRequest_logSound h
  · exact clearResultsRequest_logSound h
  · exact resetRequest_logSound s
  · exact h

/-- A byte joins the frame, or completes it and brings its request (R163). -/
theorem byteEvent_logSound (h : s.LogSound) (byte : Byte) : (byteEvent byte s).LogSound := by
  have request (kind area : Nat) (index : Word) (n : Nat) (payload : List Word) :
      (frameRequest kind area index n payload s).LogSound := by
    unfold frameRequest
    split
    · exact writeRequest_logSound h area index payload
    · exact readRequest_logSound h area index n
    · exact drainRequest_logSound h index n
    · exact controlRequest_logSound h _
    · exact enlistRequest_logSound h _
    all_goals exact h
  unfold byteEvent assemble
  repeat' split
  · exact request _ _ _ _ _
  all_goals exact h

end

/-! ## Every command -/

theorem exec_logSound {s t : State} (c : Instr) (h : s.LogSound) (answered : exec c s = .next t) : t.LogSound := by
  have settled := settle_logSound h
  have request {op : State → State} (keeps : ∀ u, u.LogSound → (op u).LogSound) : (onRequest op s).LogSound :=
    onRequest_keeps h keeps
  cases c with
  | start => exact keeps_of_next answered (request fun _ => startRequest_logSound)
  | pause => exact keeps_of_next answered (request fun _ => pauseRequest_logSound)
  | stepRun => exact keeps_of_next answered (request fun _ => stepRequest_logSound)
  | resume => exact keeps_of_next answered (request fun _ => resumeRequest_logSound)
  | abort => exact keeps_of_next answered (request fun _ => abortRequest_logSound)
  | stopAll => exact keeps_of_next answered (request fun _ => stopAllRequest_logSound)
  | clearResults => exact keeps_of_next answered (request fun _ => clearResultsRequest_logSound)
  | reset => exact keeps_of_next answered (request fun u _ => resetRequest_logSound u)
  | responseEnd => exact keeps_of_next answered h
  | setupWrite index words =>
    exact keeps_of_wellFormed answered (request fun _ hu => setupWriteRequest_logSound hu index words)
  | siteCfgWrite index words =>
    exact keeps_of_wellFormed answered (request fun _ hu => siteCfgWriteRequest_logSound hu index words)
  | preload site position words =>
    exact keeps_of_wellFormed answered (request fun _ hu => preloadRequest_logSound hu site _ words)
  | truncation site words =>
    exact keeps_of_wellFormed answered (request fun _ hu => truncationRequest_logSound hu site words)
  | write area index words =>
    exact keeps_of_wellFormed answered (request fun _ hu => writeRequest_logSound hu _ index words)
  | drain ring count => exact keeps_of_wellFormed answered (request fun _ hu => drainRequest_logSound hu ring count)
  | enlist value => exact keeps_of_next answered (request fun _ hu => enlistRequest_logSound hu value)
  | ack causes => exact keeps_of_next answered (request fun _ hu => hu)
  | probe => exact keeps_of_next answered (request fun _ hu => hu)
  | powerOnReset straps => exact keeps_of_next answered (powerOn_logSound straps s)
  | eligibleInterval ticks => exact keeps_of_next answered (intervalEvent_logSound h ticks)
  | lineIdleTimeout => exact keeps_of_next answered (idleEvent_logSound h)
  | settlingEnd => exact keeps_of_next answered (settlingEndEvent_logSound h)
  | lineBreak => exact keeps_of_next answered (breakEvent_logSound h)
  | framingError => exact keeps_of_next answered (framingErrorEvent_logSound h)
  | frameGapTimeout => exact keeps_of_next answered h
  | barrierPass peerVeto => exact keeps_of_next answered (barrierEvent_logSound settled peerVeto)
  | issue site => exact keeps_of_next answered (issueEvent_logSound h site)
  | pollTimerExpiry site => exact keeps_of_next answered (pollExpiry_logSound settled site)
  | statusResult site status => exact keeps_of_next answered (statusEvent_logSound h site status)
  | deadlineExpiry site => exact keeps_of_next answered (deadlineEvent_logSound settled site)
  | dataPartEnd site => exact keeps_of_next answered (dataEndEvent_logSound h site)
  | discardedTransactionEnd site => exact keeps_of_next answered (discardedEnd_logSound h site)
  | rendezvousTimeout => exact keeps_of_next answered (timeoutEvent_logSound settled)
  | stopFall => exact keeps_of_next answered (stopFallEvent_logSound h)
  | stopRise => exact keeps_of_next answered (stopRiseEvent_logSound h)
  | byteTaken byte => exact keeps_of_next answered (byteEvent_logSound h byte)
  | settlingEdge => exact keeps_of_next answered (settlingEdgeEvent_logSound h)
  | readByte site byte => exact keeps_of_next answered (readByteEvent_logSound h site byte)
  | unknownRequestFrame => exact keeps_of_next answered (request fun _ hu => hu)

end Sys2Proof.Machine

open Sys2Proof Sys2Proof.Machine

/-- Settles O7: every command, every piece of the runner's work and every µs keeps the rings sound at the mode's
capacity. -/
theorem logStaysSound : Obligations.LogStaysSound := fun _ _ h answered =>
  step_induction (P := State.LogSound) (fun _ _ hs => hs) (fun c _ _ hs => exec_logSound c hs)
    (fun _ => advance_logSound) (fun _ => tick_logSound) h answered
end

section
/-! PROOFS. SETUP_WRITE as it is judged; the words of a filter record and the filter that decides an event. -/
namespace Sys2Proof.Machine

/-! ## SETUP_WRITE (R148, R164, R171) -/

theorem exec_setupWrite {s : State} (h : s.linkTakes = true) (index : Word) {words : List Word}
    (h1 : 1 ≤ words.length) (h2 : words.length ≤ 256) :
    exec (.setupWrite index words) s = .next (setupWriteRequest index words s) := by
  simp [exec, execSetupWrite, frameCountOk, h1, h2, onRequest_of_takes h]

/-! ## The words of a filter record (R155, R172) -/

/-- The code of two bits that the action field carries (R172). -/
theorem Action.code_ofCode {n : Nat} (h : n < 4) : (Action.ofCode n).code = n := by
  interval_cases n <;> rfl

theorem hi_mod_four (w : Word) : hi w % 4 = 2 * (w.getLsbD 9).toNat + (w.getLsbD 8).toNat := by
  rw [← BitVec.testBit_toNat, ← BitVec.testBit_toNat, Nat.toNat_testBit, Nat.toNat_testBit, hi]
  omega

/-- A record with words stored from one of its places on. -/
def Filter.storeWords (x : Filter) (place : Nat) (words : List Word) : Filter :=
  match words with
  | [] => x
  | w :: rest => (x.storeWord place w).storeWords (place + 1) rest

/-- The words of one record are stored in it, and every other record stays (R165). -/
theorem storeFilters_get (words : List Word) (fs : Table 4 Filter) (f g : Fin 4) {place : Nat}
    (within : place + words.length ≤ 8) : (storeFilters fs (8 * f.val + place) words).get g =
      if f = g then (fs.get g).storeWords place words else fs.get g := by
  induction words generalizing fs place with
  | nil => simp [storeFilters, Filter.storeWords]
  | cons w rest ih =>
    rw [List.length_cons] at within
    have record : (8 * f.val + place) / 8 = f.val := by omega
    have word : (8 * f.val + place) % 8 = place := by omega
    have stored := ih (fs.modify f fun x => x.storeWord place w) (place := place + 1) (by omega)
    simp only [storeFilters, record, word, f.isLt, dif_pos, Fin.eta]
    rw [show 8 * f.val + place + 1 = 8 * f.val + (place + 1) by omega, stored, Table.get_modify, Filter.storeWords]
    split <;> rfl

/-- A set of sites from its two words: sites 16–31 in the high one (R172). -/
theorem sites_has_append (high low : Word) (i : SiteId) :
    SiteSet.has (high ++ low : BitVec (16 + 16)) i =
      if i.val < 16 then low.getLsbD i.val else high.getLsbD (i.val - 16) := by
  rw [SiteSet.has, BitVec.getLsbD_append]

/-- The high word of a set of sites reads back from the set. -/
theorem highWord_append (high low : Word) : toWord ((high ++ low : BitVec (16 + 16)).toNat / 65536) = high := by
  refine BitVec.eq_of_toNat_eq ?_
  have := high.isLt
  have := low.isLt
  rw [toWord_toNat, BitVec.toNat_append, ← Nat.shiftLeft_add_eq_or_of_lt low.isLt, Nat.shiftLeft_eq]
  omega

/-- A record with all of its words stored. -/
theorem Filter.storeWords_record (x : Filter) (w0 w1 w2 w3 w4 w5 w6 w7 : Word) :
    x.storeWords 0 [w0, w1, w2, w3, w4, w5, w6, w7] =
      { enabled := w0.getLsbD 0, action := Action.ofCode (hi w0 % 4), sites := w1 ++ w2
        blockValue := w3.setWidth 12, blockMask := w4.setWidth 12, pageValue := w5.setWidth 9
        pageMask := w6.setWidth 9, minTotal := w7.toNat } := by
  simp only [Filter.storeWords, Filter.storeWord, highWord_append]

/-! ## The tests of a filter (R156) -/

/-- A number agrees with a value under a mask when it does in each bit of the mask. -/
theorem masked_beq_iff {width : Nat} (n : Nat) (value mask : BitVec width) :
    (BitVec.ofNat width n &&& mask == value &&& mask) = true ↔
      ∀ k, k < width → mask.getLsbD k = true → n.testBit k = value.getLsbD k := by
  rw [beq_iff_eq]
  have bit {k : Nat} (hk : k < width) : (BitVec.ofNat width n).getLsbD k = n.testBit k := by
    rw [BitVec.getLsbD_ofNat, decide_eq_true hk, Bool.true_and]
  refine ⟨fun same k hk set => ?_, fun bits => BitVec.eq_of_getLsbD_eq fun k hk => ?_⟩
  · have both := congrArg (·.getLsbD k) same
    simpa only [BitVec.getLsbD_and, set, Bool.and_true, bit hk] using both
  · rw [BitVec.getLsbD_and, BitVec.getLsbD_and, bit hk]
    cases set : mask.getLsbD k with
    | false => simp only [Bool.and_false]
    | true => rw [bits k hk set]

/-- The five tests of a filter (R156). -/
theorem Filter.matchesEvent_iff (x : Filter) (i : SiteId) (block : Nat) (page : Option Nat) (total : Nat) :
    x.matchesEvent i block page total = true ↔ x.enabled = true ∧ x.sites.has i = true ∧
      (∀ k, k < 12 → x.blockMask.getLsbD k = true → block.testBit k = x.blockValue.getLsbD k) ∧
      x.pageTest page = true ∧ x.minTotal ≤ total := by
  simp only [Filter.matchesEvent, Bool.and_eq_true, masked_beq_iff, decide_eq_true_eq, and_assoc]

/-- The first number in order that passes a test is the lowest that does. -/
theorem find?_finRange_eq_some_iff {n : Nat} (p : Fin n → Bool) (f : Fin n) :
    (List.finRange n).find? p = some f ↔ p f = true ∧ ∀ g, g < f → ¬ p g = true := by
  rw [← List.ofFn_id]
  exact List.find?_ofFn_eq_some_of_injective Function.injective_id

end Sys2Proof.Machine

open Sys2Proof Sys2Proof.Machine

/-- Settles O23: the refusals in R164's order; an accepted frame stores Setup, and a change of mode or policy empties
the rings. -/
theorem setupWriteIsJudged : Obligations.SetupWriteIsJudged := by
  intro s index words takes h1 h2
  rw [exec_setupWrite takes index h1 h2, setupWriteRequest]
  refine ⟨fun past => ?_, fun within busy => ?_, fun within quiet => ⟨_, rfl, ?_⟩⟩
  · rw [if_pos past]
  · rw [if_neg (by omega), if_pos (by simp [busy])]
  · rw [if_neg (by omega), if_neg (by simp [quiet])]
    rcases applySetup_cases index.toNat words s with ⟨mode, policy, stored⟩ | ⟨changed, stored⟩
    · rw [stored]
      refine ⟨rfl, fun _ _ => rfl, fun changed => ?_⟩
      exact absurd changed (not_or.mpr ⟨fun differs => differs mode, fun differs => differs policy⟩)
    · rw [stored]
      refine ⟨rfl, fun mode policy => ?_, fun _ => rfl⟩
      exact absurd changed (not_or.mpr ⟨fun differs => differs mode, fun differs => differs policy⟩)

/-- Settles O30: the refusal, then the record's words, each at its field. -/
theorem filterWriteStoresFields : Obligations.FilterWriteStoresFields := by
  intro s f w0 w1 w2 w3 w4 w5 w6 w7 takes command
  have start : (toWord (8 * f.val)).toNat = 8 * f.val := by
    rw [toWord_toNat]
    omega
  have request : exec command s =
      .next (filtersWriteRequest (8 * f.val) [w0, w1, w2, w3, w4, w5, w6, w7] s) := by
    rw [← start]
    exact exec_write takes 6 _ (by simp) (by simp)
  have within : ¬ 32 < 8 * f.val + [w0, w1, w2, w3, w4, w5, w6, w7].length := by
    simp only [List.length_cons, List.length_nil]
    omega
  have stored (g : Fin 4) := storeFilters_get [w0, w1, w2, w3, w4, w5, w6, w7] s.filters f g (place := 0) (by simp)
  rw [request, filtersWriteRequest, if_neg within]
  refine ⟨fun busy => ?_, fun quiet => ⟨_, rfl, ?_⟩⟩
  · rw [if_pos (by simp [busy])]
  · rw [if_neg (by simp [quiet])]
    refine ⟨rfl, fun g other => ?_, ?_⟩
    · exact (stored g).trans (if_neg other.symm)
    · have record := (stored f).trans ((if_pos rfl).trans (Filter.storeWords_record ..))
      rw [Nat.add_zero] at record
      dsimp only [answer_filters]
      rw [record]
      refine ⟨rfl, ?_, sites_has_append w1 w2, ?_, ?_, ?_, ?_, rfl⟩
      · exact (Action.code_ofCode (Nat.mod_lt _ (by decide))).trans (hi_mod_four w0)
      all_goals exact BitVec.toNat_setWidth _ _

/-- Settles O59: a filter matches by its five tests, and the first match in order is the lowest-numbered. -/
theorem lowestMatchingFilterDecides : Obligations.LowestMatchingFilterDecides := by
  intro filters i block page total hits
  have hits_iff (f : Fin 4) : hits f ↔ (filters.get f).matchesEvent i block page total = true := by
    rw [Filter.matchesEvent_iff]
    cases page with
    | some q => simp only [hits, Filter.pageTest, masked_beq_iff]
    | none => simp only [hits, Filter.pageTest, beq_iff_eq]
  simp only [hits_iff]
  exact ⟨fun f => find?_finRange_eq_some_iff _ f, by simp [decidingFilter]⟩
end

section
/-! PROOFS. Setup in its ranges: what a WRITE stores lies in them, the reset values do, and nothing else writes
Setup. -/
namespace Sys2Proof.Machine

/-! ## Values stored (R171) -/

theorem clamp_bounds {least most : Nat} (h : least ≤ most) (v : Nat) :
    least ≤ clamp least most v ∧ clamp least most v ≤ most :=
  ⟨le_max_left _ _, max_le h (min_le_left _ _)⟩

/-- A value rounded down to a multiple stays in a range whose ends are multiples themselves. -/
theorem clampTo_bounds {multiple least most : Nat} (h : least ≤ most) (hleast : multiple ∣ least) (v : Nat) :
    least ≤ clampTo multiple least most v ∧ clampTo multiple least most v ≤ most ∧
      clampTo multiple least most v % multiple = 0 := by
  obtain ⟨low, high⟩ := clamp_bounds h v
  refine ⟨?_, (Nat.div_mul_le_self _ _).trans high, Nat.mul_mod_left _ _⟩
  calc least = least / multiple * multiple := (Nat.div_mul_cancel hleast).symm
    _ ≤ clampTo multiple least most v := Nat.mul_le_mul_right _ (Nat.div_le_div_right low)

/-- A condition mask of six bits leaves FILTER_STOP out (R84). -/
theorem conditionMask_filterStop (n : Nat) : (BitVec.ofNat 7 (n % 64)).getLsbD 6 = false := by
  rw [BitVec.getLsbD_ofNat, show n % 64 = n % 2 ^ 6 from rfl, Nat.testBit_mod_two_pow]
  rfl

/-- A field that a frame stores or leaves alone has what the stored value and the old one have. -/
theorem storeField_keeps {α : Type} {P : α → Prop} {touched : Bool} {new old : α} (hnew : P new) (hold : P old) :
    P (if touched then new else old) :=
  iteInduction (fun _ => hnew) fun _ => hold

/-- What a frame stores lies in the ranges, and what it leaves alone stays in them (R171). -/
theorem Setup.InRange.storeSetup {g : Setup} (h : g.InRange) (index : Nat) (words : List Word) :
    (storeSetup g index words).InRange where
  blocksPerDie := storeField_keeps (P := fun n => 1 ≤ n ∧ n ≤ 4096) (clamp_bounds (by decide) _) h.blocksPerDie
  pagesPerBlock := storeField_keeps (P := fun n => 1 ≤ n ∧ n ≤ 512) (clamp_bounds (by decide) _) h.pagesPerBlock
  pageBytes := storeField_keeps (P := fun n => 512 ≤ n ∧ n ≤ 16384 ∧ n % 512 = 0)
    (clampTo_bounds (by decide) (by decide) _) h.pageBytes
  codewordBytes := storeField_keeps (P := fun n => 256 ≤ n ∧ n ≤ 4096 ∧ n % 256 = 0)
    (clampTo_bounds (by decide) (by decide) _) h.codewordBytes
  threshold := storeField_keeps (P := fun n => n ≤ 65535) (Nat.le_of_lt_succ (BitVec.isLt _)) h.threshold
  matchCount := storeField_keeps (P := fun n => 1 ≤ n ∧ n ≤ 7) (clamp_bounds (by decide) _) h.matchCount
  pollInterval := storeField_keeps (P := fun n => 1 ≤ n ∧ n ≤ 255) (clamp_bounds (by decide) _) h.pollInterval
  readDeadline := storeField_keeps (P := fun n => 1 ≤ n ∧ n ≤ 1048575) (clamp_bounds (by decide) _) h.readDeadline
  programDeadline :=
    storeField_keeps (P := fun n => 1 ≤ n ∧ n ≤ 1048575) (clamp_bounds (by decide) _) h.programDeadline
  eraseDeadline := storeField_keeps (P := fun n => 1 ≤ n ∧ n ≤ 1048575) (clamp_bounds (by decide) _) h.eraseDeadline
  siteStop := storeField_keeps (P := fun x : CondSet => x.getLsbD 6 = false) (conditionMask_filterStop _) h.siteStop
  mainframeStop :=
    storeField_keeps (P := fun x : CondSet => x.getLsbD 6 = false) (conditionMask_filterStop _) h.mainframeStop
  listLimit := storeField_keeps (P := fun n => 1 ≤ n ∧ n ≤ 64) (clamp_bounds (by decide) _) h.listLimit
  rendezvousTimeout :=
    storeField_keeps (P := fun n => n ≤ 65535) (Nat.le_of_lt_succ (BitVec.isLt _)) h.rendezvousTimeout
  watermark := storeField_keeps (P := fun n => 1 ≤ n ∧ n ≤ 2048) (clamp_bounds (by decide) _) h.watermark

/-! ## What leaves Setup alone -/

/-- The state's Setup lies in its ranges. -/
abbrev State.SetupInRange (s : State) : Prop := s.setup.InRange

section
variable {s : State}

/-- Setup in its ranges stays so where Setup stands. -/
theorem State.SetupInRange.congr {t : State} (h : s.SetupInRange) (e : t.setup = s.setup) : t.SetupInRange := by
  rw [State.SetupInRange, e]
  exact h

/-- Setup is one of the two things that `listStore` looks at. -/
theorem setup_of_listStore {t : State} (e : t.listStore = s.listStore) : t.setup = s.setup := congrArg Prod.snd e

@[simp] theorem settle_setup (s : State) : (settle s).setup = s.setup := setup_of_listStore (settle_listStore s)

@[simp] theorem endPart_setup (i : SiteId) (s : State) : (endPart i s).setup = s.setup :=
  setup_of_listStore (endPart_listStore i s)

@[simp] theorem endDiscarded_setup (i : SiteId) (s : State) : (endDiscarded i s).setup = s.setup :=
  setup_of_listStore (endDiscarded_listStore i s)

@[simp] theorem handleEvent_setup (i : SiteId) (e : SiteEvent) (p : Position) (trial : Bool) (s : State) :
    (handleEvent i e p trial s).setup = s.setup := by rw [(handleEvent_handling i e p trial s).frame]

@[simp] theorem siteReady_setup (i : SiteId) (r : Round) (status : Byte) (s : State) :
    (siteReady i r status s).setup = s.setup := by
  unfold siteReady
  dsimp only
  split
  · split
    · rw [endPart_setup, handleEvent_setup]; rfl
    · split
      · rfl
      · rw [endPart_setup]; rfl
  · rw [endPart_setup]; rfl

@[simp] theorem statusLive_setup (i : SiteId) (r : Round) (status : Byte) (s : State) :
    (statusLive i r status s).setup = s.setup :=
  iteInduction (motive := fun u : State => u.setup = s.setup) (fun _ => siteReady_setup i r status _) fun _ => rfl

@[simp] theorem statusEvent_setup (i : SiteId) (status : Byte) (s : State) :
    (statusEvent i status s).setup = s.setup := by
  unfold statusEvent statusSettled
  split
  · exact endDiscarded_setup i s
  · split
    · split
      · rw [statusLive_setup, settle_setup]
      · exact settle_setup s
    · exact settle_setup s

@[simp] theorem outcomeFormed_setup (i : SiteId) (r : Round) (x : Tally) (p : Position) (s : State) :
    (outcomeFormed i r x p s).setup = s.setup := by
  unfold outcomeFormed
  dsimp only
  split
  · rw [endPart_setup]; rfl
  · rw [endPart_setup, handleEvent_setup]; rfl

@[simp] theorem dataEndEvent_setup (i : SiteId) (s : State) : (dataEndEvent i s).setup = s.setup := by
  unfold dataEndEvent
  split
  · exact endDiscarded_setup i s
  · split
    · split
      · split
        · exact outcomeFormed_setup i _ _ _ s
        · rfl
      · rfl
    · rfl

@[simp] theorem clearResultsRequest_setup (s : State) : (clearResultsRequest s).setup = s.setup := by
  unfold clearResultsRequest
  split <;> rfl

@[simp] theorem preloadRequest_setup (i : SiteId) (position : Nat) (words : List Word) (s : State) :
    (preloadRequest i position words s).setup = s.setup := by
  unfold preloadRequest
  repeat' split
  all_goals rfl

@[simp] theorem truncationRequest_setup (i : SiteId) (words : List Word) (s : State) :
    (truncationRequest i words s).setup = s.setup := by
  unfold truncationRequest
  repeat' split
  all_goals rfl

@[simp] theorem badListWriteRequest_setup (index : Nat) (words : List Word) (s : State) :
    (badListWriteRequest index words s).setup = s.setup := by
  unfold badListWriteRequest
  split
  · exact preloadRequest_setup _ _ words s
  · split
    · exact truncationRequest_setup _ words s
    · split <;> rfl

/-! ## What writes Setup (R24, R171), and the frames that carry it -/

theorem applySetup_setup (index : Nat) (words : List Word) (s : State) :
    (applySetup index words s).setup = storeSetup s.setup index words := by
  rcases applySetup_cases index words s with ⟨_, _, stored⟩ | ⟨_, stored⟩
  · rw [stored]
  · rw [stored, emptyRings_setup]

theorem setupWriteRequest_setupInRange (h : s.SetupInRange) (index : Word) (words : List Word) :
    (setupWriteRequest index words s).SetupInRange := by
  have stored : (applySetup index.toNat words s).SetupInRange := by
    rw [State.SetupInRange, applySetup_setup]
    exact h.storeSetup _ words
  unfold setupWriteRequest
  split
  · exact h
  · split
    · exact h
    · exact stored

theorem writeRequest_setupInRange (h : s.SetupInRange) (area : Nat) (index : Word) (words : List Word) :
    (writeRequest area index words s).SetupInRange := by
  unfold writeRequest
  split
  · exact h.congr (setup_of_listStore (planWriteRequest_listStore _ words s))
  · exact setupWriteRequest_setupInRange h index words
  · exact h.congr (setup_of_listStore (siteCfgWriteRequest_listStore index words s))
  · exact h
  · exact h.congr (badListWriteRequest_setup _ words s)
  · exact h.congr (setup_of_listStore (filtersWriteRequest_listStore _ words s))
  · exact h
  · exact h

theorem controlRequest_setupInRange (h : s.SetupInRange) (code : Nat) : (controlRequest code s).SetupInRange := by
  unfold controlRequest
  split
  · exact h.congr (setup_of_listStore (startRequest_listStore s))
  · exact h.congr (setup_of_listStore (pauseRequest_listStore s))
  · exact h.congr (setup_of_listStore (stepRequest_listStore s))
  · exact h.congr (setup_of_listStore (resumeRequest_listStore s))
  · exact h.congr (setup_of_listStore (abortRequest_listStore s))
  · exact h.congr (setup_of_listStore (stopAllRequest_listStore s))
  · exact h.congr (clearResultsRequest_setup s)
  · exact Setup.reset_inRange
  · exact h

theorem frameRequest_setupInRange (h : s.SetupInRange) (kind area : Nat) (index : Word) (n : Nat)
    (payload : List Word) : (frameRequest kind area index n payload s).SetupInRange := by
  unfold frameRequest
  split
  · exact writeRequest_setupInRange h area index payload
  · exact h.congr (setup_of_listStore (readRequest_listStore area index n s))
  · exact h.congr (setup_of_listStore (drainRequest_listStore index n s))
  · exact controlRequest_setupInRange h _
  · exact h.congr (setup_of_listStore (enlistRequest_listStore _ s))
  · exact h
  · exact h
  · exact h

/-- A byte is discarded, joins the frame, or completes it and brings its request (R163). -/
theorem byteEvent_setupInRange (h : s.SetupInRange) (byte : Byte) : (byteEvent byte s).SetupInRange := by
  unfold byteEvent assemble
  split
  · split
    · split
      · exact frameRequest_setupInRange h _ _ _ _ _
      · exact h
    · exact h
  · exact h

/-! ## Every command -/

theorem exec_setupInRange {t : State} (c : Instr) (h : s.SetupInRange) (answered : exec c s = .next t) :
    t.SetupInRange := by
  have stands {u : State} (e : u.listStore = s.listStore) : u.SetupInRange := h.congr (setup_of_listStore e)
  have settled {u : State} (e : u.listStore = (settle s).listStore) : u.SetupInRange :=
    stands (e.trans (settle_listStore s))
  have request {op : State → State} (keeps : ∀ u, u.SetupInRange → (op u).SetupInRange) :
      (onRequest op s).SetupInRange := onRequest_keeps h keeps
  have leaves {op : State → State} (e : ∀ u, (op u).listStore = u.listStore) : (onRequest op s).SetupInRange :=
    request fun u hu => hu.congr (setup_of_listStore (e u))
  cases c with
  | start => exact keeps_of_next answered (leaves startRequest_listStore)
  | pause => exact keeps_of_next answered (leaves pauseRequest_listStore)
  | stepRun => exact keeps_of_next answered (leaves stepRequest_listStore)
  | resume => exact keeps_of_next answered (leaves resumeRequest_listStore)
  | abort => exact keeps_of_next answered (leaves abortRequest_listStore)
  | stopAll => exact keeps_of_next answered (leaves stopAllRequest_listStore)
  | clearResults => exact keeps_of_next answered (request fun u hu => hu.congr (clearResultsRequest_setup u))
  | reset => exact keeps_of_next answered (request fun _ _ => Setup.reset_inRange)
  | responseEnd => exact keeps_of_next answered h
  | setupWrite index words =>
    exact keeps_of_wellFormed answered (request fun _ hu => setupWriteRequest_setupInRange hu index words)
  | siteCfgWrite index words => exact keeps_of_wellFormed answered (leaves (siteCfgWriteRequest_listStore index words))
  | preload site position words =>
    exact keeps_of_wellFormed answered (request fun u hu => hu.congr (preloadRequest_setup site _ words u))
  | truncation site words =>
    exact keeps_of_wellFormed answered (request fun u hu => hu.congr (truncationRequest_setup site words u))
  | write area index words =>
    exact keeps_of_wellFormed answered (request fun _ hu => writeRequest_setupInRange hu _ index words)
  | drain ring count => exact keeps_of_wellFormed answered (leaves (drainRequest_listStore ring count))
  | enlist value => exact keeps_of_next answered (leaves (enlistRequest_listStore value))
  | ack causes => exact keeps_of_next answered (leaves fun _ => rfl)
  | probe => exact keeps_of_next answered (leaves fun _ => rfl)
  | powerOnReset straps => exact keeps_of_next answered Setup.reset_inRange
  | eligibleInterval ticks => exact keeps_of_next answered (stands (intervalEvent_listStore ticks s))
  | lineIdleTimeout => exact keeps_of_next answered (stands (idleEvent_listStore s))
  | settlingEnd => exact keeps_of_next answered (stands (settlingEndEvent_listStore s))
  | lineBreak => exact keeps_of_next answered (stands (breakEvent_listStore s))
  | framingError => exact keeps_of_next answered (stands (framingErrorEvent_listStore s))
  | frameGapTimeout => exact keeps_of_next answered h
  | barrierPass peerVeto => exact keeps_of_next answered (settled (barrierEvent_listStore peerVeto _))
  | issue site => exact keeps_of_next answered (stands (issueEvent_listStore site s))
  | pollTimerExpiry site => exact keeps_of_next answered (settled (pollExpiry_listStore site _))
  | statusResult site status => exact keeps_of_next answered (h.congr (statusEvent_setup site status s))
  | deadlineExpiry site => exact keeps_of_next answered (settled (deadlineEvent_listStore site _))
  | dataPartEnd site => exact keeps_of_next answered (h.congr (dataEndEvent_setup site s))
  | discardedTransactionEnd site => exact keeps_of_next answered (stands (discardedEnd_listStore site s))
  | rendezvousTimeout => exact keeps_of_next answered (settled (timeoutEvent_listStore _))
  | stopFall => exact keeps_of_next answered (stands (stopFallEvent_listStore s))
  | stopRise => exact keeps_of_next answered (stands (stopRiseEvent_listStore s))
  | byteTaken byte => exact keeps_of_next answered (byteEvent_setupInRange h byte)
  | settlingEdge => exact keeps_of_next answered (stands (settlingEdgeEvent_listStore s))
  | readByte site byte => exact keeps_of_next answered (stands (readByteEvent_listStore site byte s))
  | unknownRequestFrame => exact keeps_of_next answered (leaves fun _ => rfl)

end

end Sys2Proof.Machine

open Sys2Proof Sys2Proof.Machine

/-- Settles O6: every command keeps Setup in its ranges; a piece of the runner's work and a µs leave it alone. -/
theorem setupStaysInRange : Obligations.SetupStaysInRange := fun _ _ h answered =>
  step_induction (P := State.SetupInRange) (fun _ _ hs => hs) (fun c _ _ hs => exec_setupInRange c hs)
    (fun s hs => hs.congr (setup_of_listStore (advance_listStore s)))
    (fun s hs => hs.congr (setup_of_listStore (tick_listStore s))) h answered
end

section
/-! PROOFS. The words of SETUP as they read back after a WRITE. -/
namespace Sys2Proof.Machine

/-- The words of SETUP after an accepted frame (R171). -/
theorem areaWord_setupWrite {s t : State} {index : Word} {words : List Word} (takes : s.linkTakes = true)
    (quiet : s.quiet = true) (h1 : 1 ≤ words.length) (h2 : words.length ≤ 256)
    (within : index.toNat + words.length ≤ 27) (answered : exec (.setupWrite index words) s = .next t) (i : Nat) :
    areaWord 2 t i = (setupWords (storeSetup s.setup index.toNat words)).getD i 0 := by
  rw [exec_setupWrite takes index h1 h2, setupWriteRequest, if_neg (by omega), if_neg (by simp [quiet])] at answered
  injection answered with stored
  rw [← stored, ← applySetup_setup]
  rfl

/-- Whether a frame touches a word. -/
def frameTouches (index : Nat) (words : List Word) (i : Nat) : Bool := index ≤ i && i < index + words.length

theorem frameTouches_iff (index : Nat) (words : List Word) (i : Nat) :
    frameTouches index words i = true ↔ index ≤ i ∧ i < index + words.length := by simp [frameTouches]

theorem frameTouches_eq_false_iff (index : Nat) (words : List Word) (i : Nat) :
    frameTouches index words i = false ↔ i < index ∨ index + words.length ≤ i := by
  rw [← Bool.not_eq_true, frameTouches_iff]
  omega

/-- The merged words hold the frame's word where the frame touches them (R171). -/
theorem mergedWord_of_frame {index i : Nat} {words : List Word} {w : Word} (frameWord : words[i - index]? = some w)
    (touched : frameTouches index words i = true) (g : Setup) : mergedWord g index words i = w := by
  refine (if_pos touched).trans ?_
  rw [List.getD_eq_getElem?_getD, frameWord]
  rfl

/-! ## Words of one field (R171) -/

/-- What a touched word of one field reads back as. -/
def storedWord (i : Nat) (w : Word) : Nat :=
  match setupRange i with
  | some (least, most, multiple) => clampTo multiple least most w.toNat
  | none => w.toNat % (setupMask i).getD 1

/-- A word shows its field: the stored value where the frame touches it, else the value held. -/
theorem toWord_field {α : Type} (code : α → Nat) {touched : Bool} {new old : α} {v : Nat} (h : code new = v) :
    toWord (code (if touched then new else old)) = if touched then toWord v else toWord (code old) := by
  cases touched
  · rfl
  · exact congrArg toWord h

theorem clamp_eq_clampTo (least most v : Nat) : clamp least most v = clampTo 1 least most v := by simp [clampTo]

/-- A field that takes every word is stored as written. -/
theorem word_eq_clampTo (w : Word) : w.toNat = clampTo 1 0 65535 w.toNat := by
  have := w.isLt
  simp only [clampTo, clamp]
  omega

/-- A mask or value of eight bits holds what the clamp leaves. -/
theorem toByte_clamp (v : Nat) : (toByte (clamp 0 255 v)).toNat = clampTo 1 0 255 v := by
  simp only [toByte, BitVec.toNat_ofNat, clampTo, clamp]
  omega

/-- A condition mask holds six bits (R84). -/
theorem conditionMask_toNat (v : Nat) : (BitVec.ofNat 7 (v % 64)).toNat = v % 64 := by
  rw [BitVec.toNat_ofNat]
  omega

/-- A flag holds the lowest bit. -/
theorem bit_lowest (v : Nat) : bit (v % 2 == 1) = v % 2 := by
  rcases Nat.mod_two_eq_zero_or_one v with h | h <;> rw [h] <;> rfl

/-- A choice of two is 0 for 0 and 1 for every other word. -/
theorem choice_code {α : Type} (code : α → Nat) {zero one : α} (hzero : code zero = 0) (hone : code one = 1) (v : Nat) :
    code (if v == 0 then zero else one) = clampTo 1 0 1 v := by
  cases v with
  | zero => exact hzero
  | succ n => exact hone.trans (by simp [clampTo, clamp])

theorem bit_nonzero (v : Nat) : bit (v != 0) = clampTo 1 0 1 v := by
  cases v with
  | zero => rfl
  | succ n => simp [bit, clampTo, clamp]

/-- Every word of one field reads back as it is stored, where the frame touches it, and stands elsewhere (R171). -/
theorem setupWords_storeSetup (g : Setup) (index : Nat) (words : List Word) {i : Nat} (hi : i < 27)
    (single : ¬ (10 ≤ i ∧ i ≤ 15)) : (setupWords (storeSetup g index words)).getD i 0 =
      if frameTouches index words i then toWord (storedWord i (mergedWord g index words i))
      else (setupWords g).getD i 0 := by
  have number {v : Nat} {touched : Bool} {new old : Nat} (h : new = v) :
      toWord (if touched then new else old) = if touched then toWord v else toWord old := toWord_field id h
  -- One bullet for each word, in the order of the table of R171; words 10 to 15 are those of the deadlines.
  interval_cases i
  · exact number (clamp_eq_clampTo ..)
  · exact number (clamp_eq_clampTo ..)
  · exact number rfl
  · exact number rfl
  · exact number (word_eq_clampTo _)
  · exact number (clamp_eq_clampTo ..)
  · exact number (clamp_eq_clampTo ..)
  · exact toWord_field BitVec.toNat (toByte_clamp _)
  · exact toWord_field BitVec.toNat (toByte_clamp _)
  · exact toWord_field BitVec.toNat (toByte_clamp _)
  iterate 6 exact absurd (by decide) single
  · exact toWord_field BitVec.toNat (conditionMask_toNat _)
  · exact toWord_field BitVec.toNat (conditionMask_toNat _)
  · exact number (clamp_eq_clampTo ..)
  · exact number (word_eq_clampTo _)
  · exact toWord_field bit (bit_lowest _)
  · exact toWord_field LogMode.code (choice_code LogMode.code rfl rfl _)
  · exact toWord_field LogPolicy.code (choice_code LogPolicy.code rfl rfl _)
  · exact toWord_field bit (bit_lowest _)
  · exact number (clamp_eq_clampTo ..)
  · exact toWord_field bit (bit_nonzero _)
  · exact toWord_field BitVec.toNat (BitVec.toNat_ofNat _ _)

/-- The greatest value of a range fits a word. -/
theorem setupRange_most {i least most multiple : Nat} (h : setupRange i = some (least, most, multiple)) :
    least ≤ most ∧ most ≤ 65535 := by
  unfold setupRange at h
  split at h
  case h_17 => nomatch h
  all_goals
    cases h
    decide

/-- What a word of a ranged field reads back as (R171). -/
theorem storedWord_range {i least most multiple : Nat} (h : setupRange i = some (least, most, multiple)) (w : Word) :
    (toWord (storedWord i w)).toNat = max least (min most w.toNat) / multiple * multiple := by
  obtain ⟨order, fits⟩ := setupRange_most h
  have top : clampTo multiple least most w.toNat ≤ most :=
    (Nat.div_mul_le_self _ _).trans (clamp_bounds order _).2
  simp only [storedWord, h]
  rw [toWord_toNat, Nat.mod_eq_of_lt (by omega)]
  rfl

/-- What a word of flags or of a set reads back as (R171). -/
theorem storedWord_mask {i m : Nat} (h : setupMask i = some m) (w : Word) :
    (toWord (storedWord i w)).toNat = w.toNat % m := by
  have masked : setupRange i = none := by
    unfold setupMask at h
    split at h
    case h_6 => nomatch h
    all_goals rfl
  simp only [storedWord, masked, h, Option.getD_some]
  rw [toWord_toNat]
  exact Nat.mod_eq_of_lt ((Nat.mod_le _ _).trans_lt w.isLt)

/-! ## Deadlines (R171) -/

/-- The deadline whose high word is at an index. -/
def Setup.deadlineAt (g : Setup) (i : Nat) : Nat :=
  match i with
  | 10 => g.readDeadline
  | 12 => g.programDeadline
  | _ => g.eraseDeadline

section
variable {i : Nat}

/-- A deadline shows its high word and its low word. -/
theorem setupWords_deadline (at_ : i = 10 ∨ i = 12 ∨ i = 14) (g : Setup) :
    (setupWords g).getD i 0 = highWord (g.deadlineAt i) ∧ (setupWords g).getD (i + 1) 0 = toWord (g.deadlineAt i) := by
  rcases at_ with rfl | rfl | rfl <;> exact ⟨rfl, rfl⟩

/-- A deadline is formed from its merged words when the frame touches one of them. -/
theorem storeSetup_deadlineAt (at_ : i = 10 ∨ i = 12 ∨ i = 14) (g : Setup) (index : Nat) (words : List Word) :
    (storeSetup g index words).deadlineAt i =
      if frameTouches index words i || frameTouches index words (i + 1) then
        clamp 1 1048575 ((mergedWord g index words i).toNat * 65536 + (mergedWord g index words (i + 1)).toNat)
      else g.deadlineAt i := by
  rcases at_ with rfl | rfl | rfl <;> rfl

end

/-- A number of two words is read back from them. -/
theorem highWord_toWord {n : Nat} (h : n ≤ 1048575) : (highWord n).toNat * 65536 + (toWord n).toNat = n := by
  rw [highWord_toNat, toWord_toNat]
  omega

end Sys2Proof.Machine

open Sys2Proof Sys2Proof.Machine

/-- Settles O24: the words of one field by whether the frame touches them, then the deadlines with their two words. -/
theorem setupWordsReadBack : Obligations.SetupWordsReadBack := by
  refine ⟨fun s t index words i _ takes quiet h1 h2 within hi single answered => ?_, ?_⟩
  · have reads := (areaWord_setupWrite takes quiet h1 h2 within answered i).trans
      (setupWords_storeSetup s.setup index.toNat words hi single)
    refine ⟨fun untouched => ?_, fun w frameWord start => ?_⟩
    · rw [reads, (frameTouches_eq_false_iff _ _ _).mpr untouched]
      rfl
    · have inFrame : i - index.toNat < words.length := (List.getElem?_eq_some_iff.mp frameWord).1
      have hit : frameTouches index.toNat words i = true := (frameTouches_iff _ _ _).mpr ⟨start, by omega⟩
      rw [hit, if_pos rfl, mergedWord_of_frame frameWord hit] at reads
      rw [reads]
      exact ⟨fun least most multiple range => storedWord_range range w, fun m mask => storedWord_mask mask w⟩
  · intro s t index words i _ takes quiet h1 h2 within at_ answered word touched
    have merged (k : Nat) : (mergedWord s.setup index.toNat words k).toNat = word k := by
      simp only [mergedWord, word, Bool.and_eq_true, decide_eq_true_eq]
      exact apply_ite BitVec.toNat _ _ _
    have touches : (frameTouches index.toNat words i || frameTouches index.toNat words (i + 1)) = true ↔ touched := by
      rw [Bool.or_eq_true, frameTouches_iff, frameTouches_iff]
    have stored := storeSetup_deadlineAt at_ s.setup index.toNat words
    obtain ⟨high, low⟩ := setupWords_deadline at_ (storeSetup s.setup index.toNat words)
    rw [areaWord_setupWrite takes quiet h1 h2 within answered, areaWord_setupWrite takes quiet h1 h2 within answered,
      high, low]
    refine ⟨fun hit => ?_, fun missed => ?_⟩
    · rw [stored, if_pos (touches.mpr hit), highWord_toWord (clamp_bounds (by decide) _).2, merged, merged]
      rfl
    · rw [stored, if_neg (fun hit => missed (touches.mp hit))]
      obtain ⟨oldHigh, oldLow⟩ := setupWords_deadline at_ s.setup
      exact ⟨oldHigh.symm, oldLow.symm⟩
end

section
/-! PROOFS. Commands as they are taken: well-formed commands and the others, requests that are lost, WRITE by its area,
ACK, PROBE and the frame that names no request. -/
namespace Sys2Proof.Machine

/-! ## Requests and the term that no frame can carry (R163, log entries 2 and 26) -/

/-- Answers with equal next states are equal. -/
theorem next_congr {s t : State} (h : s = t) : (Host.Outcome.next s : Result) = .next t := congrArg _ h

/-- A well-formed request acts through the Link Port, which takes it or loses it (R163). -/
theorem exec_request {c : Instr} (request : isRequest c = true) (formed : c.wellFormed = true) :
    ∃ op : State → State, ∀ s, exec c s = .next (onRequest op s) := by
  cases c with
  | start => exact ⟨_, fun _ => rfl⟩
  | pause => exact ⟨_, fun _ => rfl⟩
  | stepRun => exact ⟨_, fun _ => rfl⟩
  | resume => exact ⟨_, fun _ => rfl⟩
  | abort => exact ⟨_, fun _ => rfl⟩
  | stopAll => exact ⟨_, fun _ => rfl⟩
  | clearResults => exact ⟨_, fun _ => rfl⟩
  | reset => exact ⟨_, fun _ => rfl⟩
  | setupWrite index words => exact ⟨_, fun _ => if_pos formed⟩
  | siteCfgWrite index words => exact ⟨_, fun _ => if_pos formed⟩
  | preload site position words => exact ⟨_, fun _ => if_pos formed⟩
  | truncation site words => exact ⟨_, fun _ => if_pos formed⟩
  | write area index words => exact ⟨_, fun _ => if_pos formed⟩
  | drain ring count => exact ⟨_, fun _ => if_pos formed⟩
  | enlist value => exact ⟨_, fun _ => rfl⟩
  | ack causes => exact ⟨_, fun _ => rfl⟩
  | probe => exact ⟨_, fun _ => rfl⟩
  | unknownRequestFrame => exact ⟨_, fun _ => rfl⟩
  | _ => nomatch request

/-- An event at the part's pins, ports, lines and timers is always answered with a next state. -/
theorem exec_event {c : Instr} (event : isRequest c = false) (s : State) : ∃ t, exec c s = .next t := by
  cases c
  case start | pause | stepRun | resume | abort | stopAll | clearResults | reset | setupWrite | siteCfgWrite | preload |
      truncation | write | drain | enlist | ack | probe | unknownRequestFrame => nomatch event
  all_goals exact ⟨_, rfl⟩

/-- A term that no frame can carry faults (log entry 26). -/
theorem exec_illFormed {c : Instr} (illFormed : c.wellFormed = false) (s : State) :
    exec c s = .fault .illFormedCommand := by
  have refused {n : Nat} (h : frameCountOk n = false) : ¬ frameCountOk n = true := by simp [h]
  cases c with
  | setupWrite index words => exact if_neg (refused illFormed)
  | siteCfgWrite index words => exact if_neg (refused illFormed)
  | preload site position words => exact if_neg (refused illFormed)
  | truncation site words => exact if_neg (refused illFormed)
  | write area index words => exact if_neg (refused illFormed)
  | drain ring count => exact if_neg (refused illFormed)
  | _ => nomatch illFormed

theorem onRequest_of_lost {s : State} (h : s.linkTakes = false) (op : State → State) : onRequest op s = s := by
  simp [onRequest, h]

/-- When the Link Port takes no frame: outside READY, during a response, and in a hold-off (R160, R162, R163). -/
theorem linkTakes_eq_false_iff (s : State) : s.linkTakes = false ↔
    s.link.receiver ≠ .ready ∨ s.link.response.isSome = true ∨ s.link.holdOff.isSome = true := by
  rw [State.linkTakes, Bool.and_eq_false_iff, Bool.and_eq_false_iff, beq_eq_false_iff_ne, Option.isNone_eq_false_iff,
    Option.isNone_eq_false_iff, or_assoc]

/-! ## WRITE by its area (R164, R165, R172) -/

/-- A word index of the entry part names a site's section and a position in it. -/
theorem badListWriteRequest_entry {index : Nat} {i : SiteId} {j : Fin 64} (h : index = 64 * i.val + j.val)
    (words : List Word) (s : State) : badListWriteRequest index words s = preloadRequest i j.val words s := by
  have entries : index < 2048 := by omega
  have site : (⟨index / 64 % 32, Nat.mod_lt _ (by decide)⟩ : SiteId) = i := Fin.ext (by dsimp only; omega)
  have position : index % 64 = j.val := by omega
  rw [badListWriteRequest, if_pos entries, site, position]

/-- A word index of the count part names a site. -/
theorem badListWriteRequest_count {index : Nat} {i : SiteId} (h : index = 2048 + i.val) (words : List Word)
    (s : State) : badListWriteRequest index words s = truncationRequest i words s := by
  have site : (⟨(index - 2048) % 32, Nat.mod_lt _ (by decide)⟩ : SiteId) = i := Fin.ext (by dsimp only; omega)
  rw [badListWriteRequest, if_neg (by omega), if_pos (by omega), site]

/-- The detail part is read-only (R172). -/
theorem badListWriteRequest_detail {index : Nat} (low : 2080 ≤ index) (high : index < 4128) (words : List Word)
    (s : State) : badListWriteRequest index words s = answer .readOnly [] s := by
  rw [badListWriteRequest, if_neg (by omega), if_neg (by omega), if_pos high]

/-- Codes 0 and 8 to 15 name no area (R172). -/
theorem writeRequest_noArea {area : Nat} (h : area = 0 ∨ 8 ≤ area) (index : Word) (words : List Word) (s : State) :
    writeRequest area index words s = answer .badRequest [] s := by
  rcases h with rfl | high
  · rfl
  · obtain ⟨n, rfl⟩ := Nat.exists_eq_add_of_le' high
    rfl

/-! ## ACK, PROBE and the frame that names no request (R164, R169, R170) -/

theorem exec_ack {s : State} (h : s.linkTakes = true) (causes : Word) :
    exec (.ack causes) s = .next (ackRequest causes s) :=
  next_congr (onRequest_of_takes h _)

theorem exec_probe {s : State} (h : s.linkTakes = true) : exec .probe s = .next (probeRequest s) :=
  next_congr (onRequest_of_takes h _)

theorem exec_unknownRequestFrame {s : State} (h : s.linkTakes = true) :
    exec .unknownRequestFrame s = .next (answer .badRequest [] s) :=
  next_congr (onRequest_of_takes h _)

/-- ACK clears a cause that it names, and leaves every other as it was (R170). -/
theorem ackRequest_causes_getLsbD (w : Word) (s : State) {k : Nat} (hk : k < 5) :
    (ackRequest w s).link.causes.getLsbD k = (s.link.causes.getLsbD k && !w.getLsbD k) := by
  simp [ackRequest, hk]

/-- ATTN is asserted while a cause is set whose enable is set (R170). -/
theorem attn_iff (s : State) : s.attn = true ↔
    ∃ k, k < 5 ∧ s.link.causes.getLsbD k = true ∧ s.setup.enables.getLsbD k = true := by
  rw [State.attn, bne_iff_ne, Ne, BitVec.eq_of_getLsbD_eq_iff]
  simp

/-- The three words of PROBE, byte by byte (R169). -/
theorem probeWords_bytes {s : State} {period : Nat} (learned : s.link.learned = some period) (h : period ≤ 2084) :
    wordsBytes (probeWords s) =
      [0, toByte s.tie.station.toNat, (if s.tie.lock then 1 else 0), toByte s.tie.enlistment.code,
        toByte (period / 256), toByte (period % 256)] := by
  have station : wordBytes (toWord s.tie.station.toNat) = [0, toByte s.tie.station.toNat] := by
    generalize s.tie.station = x
    revert x
    decide
  have enlistment : wordBytes (toWord s.tie.enlistment.code ||| fld (bit s.tie.lock) 8) =
      [if s.tie.lock then 1 else 0, toByte s.tie.enlistment.code] := by
    cases s.tie.enlistment <;> cases s.tie.lock <;> decide
  have rate : wordBytes (toWord period) = [toByte (period / 256), toByte (period % 256)] := by
    rw [wordBytes_eq, toWord_toNat, Nat.mod_eq_of_lt (by omega)]
  simp [wordsBytes, probeWords, station, enlistment, learned, rate]

end Sys2Proof.Machine

open Sys2Proof Sys2Proof.Machine

/-- Settles O3: a request of the link, an event, or a term that no frame can carry. -/
theorem everyWellFormedCommandIsTaken : Obligations.EveryWellFormedCommandIsTaken := by
  refine fun s c => ⟨fun formed => ?_, fun illFormed => exec_illFormed illFormed s⟩
  cases request : isRequest c with
  | true =>
    obtain ⟨op, answered⟩ := exec_request request formed
    exact ⟨_, answered s⟩
  | false => exact exec_event request s

/-- Settles O4: the request acts through a Link Port that takes no frame. -/
theorem requestsAreLostOutsideReady : Obligations.RequestsAreLostOutsideReady := by
  intro s c request formed lost
  obtain ⟨op, answered⟩ := exec_request request formed
  rw [answered, onRequest_of_lost ((linkTakes_eq_false_iff s).mpr lost)]

/-- Settles O31, area by area. -/
theorem writeGoesToItsArea : Obligations.WriteGoesToItsArea := by
  intro s index words takes h1 h2
  have write (area : BitVec 4) := exec_write takes area index h1 h2
  refine ⟨?_, ?_, fun i j at_ => ?_, fun i at_ => ?_, fun low high => ?_, fun area readOnly => ?_,
    fun area noArea => ?_⟩
  · rw [write, exec_setupWrite takes index h1 h2]
    rfl
  · rw [write, exec_siteCfgWrite takes index h1 h2]
    rfl
  · rw [write, exec_preload takes i j h1 h2]
    exact next_congr (badListWriteRequest_entry at_ words s)
  · rw [write, exec_truncation takes i h1 h2]
    exact next_congr (badListWriteRequest_count at_ words s)
  · rw [write]
    exact next_congr (badListWriteRequest_detail low high words s)
  · rw [write]
    rcases readOnly with rfl | rfl <;> rfl
  · rw [write, writeRequest_noArea (noArea.imp_left fun zero => by rw [zero]; rfl)]

/-- Settles O34: ACK cause by cause, PROBE word by word. -/
theorem ackProbeAndUnknownFrame : Obligations.AckProbeAndUnknownFrame := by
  refine ⟨fun s w takes => ⟨_, exec_ack takes w, rfl, fun k => ackRequest_causes_getLsbD w s, attn_iff _⟩,
    fun s period takes learned h => ?_, fun s takes => ⟨_, exec_unknownRequestFrame takes, rfl, rfl⟩⟩
  rw [exec_probe takes, probeRequest, probeWords_bytes learned h]
end

section
/-! PROOFS. The receiver: the rate that it finds, breaks, framing errors and gaps, the end of a response, and a byte
that joins the frame. -/
namespace Sys2Proof.Machine

/-! ## Eligible intervals in UNLOCKED (R160) -/

theorem exec_eligibleInterval_unlocked {s : State} (unlocked : s.link.receiver = .unlocked) (ticks : Nat) :
    exec (.eligibleInterval ticks) s = .next (modifyLink
      (fun l => { (if 6 ≤ ticks ∧ ticks ≤ 2084 then l.interval ticks else l) with lineHigh := 0 }) s) := by
  refine next_congr ?_
  by_cases eligible : 6 ≤ ticks ∧ ticks ≤ 2084
  · simp [intervalEvent, unlocked, eligible]
  · simp [intervalEvent, unlocked, eligible, modifyLink]

/-- The first interval becomes the candidate (R160). -/
theorem Link.interval_first {l : Link} (h : l.candidate = none) (ticks : Nat) :
    l.interval ticks = { l with candidate := some ticks, agreement := 1 } := by simp only [Link.interval, h]

/-- A shorter interval becomes the candidate in its place (R160). -/
theorem Link.interval_shorter {l : Link} {c ticks : Nat} (h : l.candidate = some c) (shorter : ticks + 1 < c) :
    l.interval ticks = { l with candidate := some ticks, agreement := 1 } := by
  simp only [Link.interval, h, if_pos shorter]

/-- An interval within one tick of the candidate agrees with it (R160). -/
theorem Link.interval_agrees {l : Link} {c ticks : Nat} (h : l.candidate = some c) (low : c ≤ ticks + 1)
    (high : ticks ≤ c + 1) : l.interval ticks = l.agree c := by
  simp only [Link.interval, h, if_neg (Nat.not_lt.mpr low), if_pos high]

/-- A longer interval is passed over (R160). -/
theorem Link.interval_longer {l : Link} {c ticks : Nat} (h : l.candidate = some c) (longer : c + 1 < ticks) :
    l.interval ticks = l := by
  simp only [Link.interval, h, if_neg (show ¬ ticks + 1 < c by omega), if_neg (Nat.not_le.mpr longer)]

/-- All that an eligible interval can do to the Link Port: candidate, count, and with the third agreement the lock
(R160). -/
theorem Link.interval_frame (l : Link) (ticks : Nat) : l.interval ticks =
    { l with candidate := (l.interval ticks).candidate, agreement := (l.interval ticks).agreement
             learned := (l.interval ticks).learned, receiver := (l.interval ticks).receiver
             frame := (l.interval ticks).frame, holdOff := (l.interval ticks).holdOff } := by
  unfold Link.interval Link.agree
  repeat' split
  all_goals rfl

theorem Link.agree_below {l : Link} (h : l.agreement < 2) (c : Nat) :
    l.agree c = { l with agreement := l.agreement + 1 } := by
  rw [Link.agree, if_pos (by omega)]

/-- The third agreement locks (R160). -/
theorem Link.agree_third {l : Link} (h : l.agreement = 2) (c : Nat) :
    l.agree c = { l with agreement := 3, learned := some c, receiver := .settling, frame := [], holdOff := none } := by
  rw [Link.agree, h, if_neg (by decide)]

/-! ## Events outside their receiver states (R160 to R162) -/

theorem intervalEvent_locked {s : State} (h : s.link.receiver ≠ .unlocked) (ticks : Nat) :
    intervalEvent ticks s = s := by
  unfold intervalEvent
  split
  · contradiction
  · rfl

theorem idleEvent_locked {s : State} (h : s.link.receiver ≠ .unlocked) : idleEvent s = s := by
  unfold idleEvent
  split
  · contradiction
  · rfl

theorem settlingEndEvent_elsewhere {s : State} (h : s.link.receiver ≠ .settling) : settlingEndEvent s = s := by
  unfold settlingEndEvent
  split
  · contradiction
  · rfl

theorem settlingEdgeEvent_elsewhere {s : State} (h : s.link.receiver ≠ .settling) : settlingEdgeEvent s = s := by
  unfold settlingEdgeEvent
  split
  · contradiction
  · rfl

theorem breakEvent_locked {s : State} (h : s.link.receiver ≠ .unlocked) : breakEvent s = modifyLink Link.broken s := by
  unfold breakEvent
  split
  · contradiction
  · rfl

theorem framingErrorEvent_ready {s : State} (h : s.link.receiver = .ready) : framingErrorEvent s =
    modifyLink (fun l => { l with frame := [], lineHigh := 0, holdOff := some 0 }) s := by
  simp only [framingErrorEvent, h]

theorem framingErrorEvent_elsewhere {s : State} (h : s.link.receiver ≠ .ready) : framingErrorEvent s = s := by
  unfold framingErrorEvent
  split
  · contradiction
  · rfl

/-! ## Bytes (R163) -/

/-- A byte is discarded while the Link Port takes none (R160, R162, R163). -/
theorem byteEvent_lost {s : State} (h : s.linkTakes = false) (byte : Byte) : byteEvent byte s = s := by
  simp [byteEvent, h]

theorem byteEvent_taken {s : State} (h : s.linkTakes = true) (byte : Byte) :
    byteEvent byte s = assemble (s.link.frame ++ [byte]) s := by simp [byteEvent, h]

/-- The state with a frame in progress that has just grown. -/
def State.joined (frame : List Byte) (s : State) : State :=
  modifyLink (fun l => { l with frame := frame, lineHigh := 0 }) s

/-- Three bytes and fewer are no frame: the fourth is the count byte (R163). -/
theorem assemble_short {frame : List Byte} (h : frame.length ≤ 3) (s : State) :
    assemble frame s = s.joined frame := by
  unfold assemble
  split
  · simp only [List.length_cons] at h
    omega
  · rfl

end Sys2Proof.Machine

open Sys2Proof Sys2Proof.Machine

/-- Settles O35: an interval in UNLOCKED by how it lies to the candidate, then each event in its state and in the
others. -/
theorem receiverLocksAndSettles : Obligations.ReceiverLocksAndSettles := by
  refine ⟨fun s ticks unlocked => ⟨_, exec_eligibleInterval_unlocked unlocked ticks, rfl, ?_⟩,
    fun s ticks locked => next_congr (intervalEvent_locked locked ticks), fun s => ?_⟩
  · rw [modifyLink_link]
    by_cases eligible : 6 ≤ ticks ∧ ticks ≤ 2084
    · rw [if_pos eligible]
      refine ⟨by rw [Link.interval_frame], by rw [Link.interval_frame], fun passed => by omega,
        fun _ _ => ⟨fun first => ?_, fun c candidate => ⟨fun shorter => ?_, fun longer => ?_, fun low high below => ?_,
          fun low high third => ?_⟩⟩⟩
      · rw [Link.interval_first first]
      · rw [Link.interval_shorter candidate shorter]
      · rw [Link.interval_longer candidate longer]
      · rw [Link.interval_agrees candidate low high, Link.agree_below below]
      · rw [Link.interval_agrees candidate low high, Link.agree_third third]
    · rw [if_neg eligible]
      exact ⟨rfl, rfl, fun _ => rfl, fun low high => absurd ⟨low, high⟩ eligible⟩
  · refine ⟨fun unlocked => next_congr ?_, fun locked => next_congr (idleEvent_locked locked),
      fun settling => ⟨next_congr ?_, next_congr ?_⟩, fun elsewhere =>
        ⟨next_congr (settlingEndEvent_elsewhere elsewhere), next_congr (settlingEdgeEvent_elsewhere elsewhere)⟩⟩
    · simp only [idleEvent, unlocked, modifyLink]
    · simp only [settlingEndEvent, settling, modifyLink]
    · simp only [settlingEdgeEvent, settling, modifyLink]

/-- Settles O36: each event in its receiver states and in the others; after a framing error the hold-off loses the next
byte. -/
theorem breaksErrorsAndResponseEnds : Obligations.BreaksErrorsAndResponseEnds := by
  refine ⟨fun s => ⟨fun locked => ?_, fun unlocked => ?_⟩, fun s => ⟨fun ready => ?_, fun elsewhere => ?_, rfl⟩,
    fun s r response => ⟨fun stays => ?_, fun resets => ?_⟩⟩
  · refine ⟨_, next_congr (breakEvent_locked locked), rfl, rfl, fun silent => ?_, fun r response => ?_⟩
    · simp [Link.broken, silent]
    · simp [Link.broken, response]
  · exact next_congr (by simp only [breakEvent, unlocked])
  · refine ⟨_, next_congr (framingErrorEvent_ready ready), rfl, fun b => ?_⟩
    exact next_congr (byteEvent_lost ((linkTakes_eq_false_iff _).mpr (.inr (.inr rfl))) b)
  · exact next_congr (framingErrorEvent_elsewhere elsewhere)
  · exact next_congr (by simp [responseEndEvent, modifyLink, Link.responseEnd, response, stays])
  · exact next_congr (by simp [responseEndEvent, modifyLink, Link.responseEnd, response, resets])

/-- Settles O37: the byte is lost, or the frame it joins is too short to be complete. -/
theorem bytesJoinTheFrame : Obligations.BytesJoinTheFrame := by
  refine fun s b => ⟨fun lost => next_congr (byteEvent_lost lost b), fun takes short => ?_⟩
  refine next_congr ((byteEvent_taken takes b).trans (assemble_short ?_ s))
  rw [List.length_append, List.length_singleton]
  omega
end

section
/-! PROOFS. The bytes of a request's frame, taken one by one, and the request that the last of them brings. -/
namespace Sys2Proof.Machine

/-! ## The fields of a frame (section 10.2) -/

/-- A command byte names its kind and its area. -/
theorem commandByte_fields {kind area : Nat} (hkind : kind < 16) (harea : area < 16) :
    frameKind (toByte (kind * 16 + area)) = kind ∧ frameArea (toByte (kind * 16 + area)) = area := by
  simp only [frameKind, frameArea, toByte, BitVec.toNat_ofNat]
  omega

/-- The words of a payload are read back from its bytes. -/
theorem payloadWords_wordsBytes (words : List Word) : payloadWords (wordsBytes words) = words := by
  induction words with
  | nil => rfl
  | cons w rest ih => exact congrArg₂ List.cons (wordOf_wordBytes w) ih

theorem wordsBytes_length (words : List Word) : (wordsBytes words).length = 2 * words.length := by
  induction words with
  | nil => rfl
  | cons w rest ih => exact (congrArg (· + 2) ih)

/-! ## A frame in progress (R163) -/

theorem exec_byteTaken {s : State} (takes : s.linkTakes = true) (byte : Byte) :
    exec (.byteTaken byte) s = .next (assemble (s.link.frame ++ [byte]) s) :=
  next_congr (byteEvent_taken takes byte)

/-- A frame short of the length that its command byte and its count byte give is not complete. -/
theorem assemble_incomplete {frame rest payload : List Byte} {command high low count : Byte}
    (whole : frame ++ rest = command :: high :: low :: count :: payload) (more : rest ≠ [])
    (complete : (frame ++ rest).length = frameLength command count) (s : State) :
    assemble frame s = s.joined frame := by
  unfold assemble
  split
  · next c h l n begun =>
    simp only [List.cons_append, List.cons.injEq] at whole
    obtain ⟨rfl, _, _, rfl, _⟩ := whole
    have some_left := List.length_pos_iff.mpr more
    rw [List.length_append] at complete
    rw [if_neg (by rw [beq_iff_eq]; omega)]
    rfl
  · rfl

/-! ## Requests do not look at the frame in progress (R163)

Each request begins its response in the place of the frame, so it does not matter how far the frame has come. -/

theorem answer_joined (x : Status) (data : List Byte) (frame : List Byte) (s : State) :
    answer x data (s.joined frame) = answer x data s := rfl

theorem applySetup_joined (frame : List Byte) (index : Nat) (words : List Word) (s : State) :
    applySetup index words (s.joined frame) = (applySetup index words s).joined frame := by
  unfold applySetup
  dsimp only
  rw [apply_ite (State.joined frame)]
  rfl

theorem setupWriteRequest_joined (frame : List Byte) (index : Word) (words : List Word) (s : State) :
    setupWriteRequest index words (s.joined frame) = setupWriteRequest index words s := by
  unfold setupWriteRequest
  rw [applySetup_joined]
  rfl

theorem anyCfgRefused_joined (frame : List Byte) (index : Nat) (words : List Word) (s : State) :
    anyCfgRefused (s.joined frame) index words = anyCfgRefused s index words := by
  induction words generalizing index with
  | nil => rfl
  | cons w rest ih => exact congrArg (cfgRefused s index w || ·) (ih (index + 1))

theorem siteCfgWriteRequest_joined (frame : List Byte) (index : Word) (words : List Word) (s : State) :
    siteCfgWriteRequest index words (s.joined frame) = siteCfgWriteRequest index words s := by
  unfold siteCfgWriteRequest
  rw [anyCfgRefused_joined]
  rfl

theorem anyCountAbove_joined (frame : List Byte) (first : Nat) (words : List Word) (s : State) :
    anyCountAbove (s.joined frame) first words = anyCountAbove s first words := by
  induction words generalizing first with
  | nil => rfl
  | cons w rest ih =>
    exact congrArg (decide ((Table.at (n := 31) s.lists first).length < w.toNat) || ·) (ih (first + 1))

theorem badListWriteRequest_joined (frame : List Byte) (index : Nat) (words : List Word) (s : State) :
    badListWriteRequest index words (s.joined frame) = badListWriteRequest index words s := by
  unfold badListWriteRequest truncationRequest
  rw [anyCountAbove_joined]
  rfl

theorem writeRequest_joined (frame : List Byte) (area : Nat) (index : Word) (words : List Word) (s : State) :
    writeRequest area index words (s.joined frame) = writeRequest area index words s := by
  unfold writeRequest
  rw [setupWriteRequest_joined, siteCfgWriteRequest_joined, badListWriteRequest_joined]
  rfl

theorem abortRequest_joined (frame : List Byte) (s : State) : abortRequest (s.joined frame) = abortRequest s := by
  have aborted : (if s.runner.state == .idle then abortIdle (s.joined frame) else abortRun (s.joined frame)) =
      (if s.runner.state == .idle then abortIdle s else abortRun s).joined frame := by
    rw [apply_ite (State.joined frame)]
    rfl
  exact (congrArg (answer .ok []) aborted).trans (answer_joined ..)

theorem controlRequest_joined (frame : List Byte) (code : Nat) (s : State) :
    controlRequest code (s.joined frame) = controlRequest code s := by
  unfold controlRequest
  rw [abortRequest_joined]
  rfl

theorem frameRequest_joined (frame : List Byte) (kind area : Nat) (index : Word) (n : Nat) (payload : List Word)
    (s : State) :
    frameRequest kind area index n payload (s.joined frame) = frameRequest kind area index n payload s := by
  unfold frameRequest
  rw [writeRequest_joined, controlRequest_joined]
  rfl

/-! ## The bytes of a whole frame (R163, R164) -/

theorem execAll_next {c : Instr} {s t : State} (h : exec c s = .next t) (rest : List Instr) :
    execAll (c :: rest) s = execAll rest t := by simp only [execAll, h]

/-- The rest of a frame, taken byte by byte, completes it and brings its request (R163, R164). -/
theorem execAll_restOfFrame {command high low count : Byte} {payload : List Byte} (rest : List Byte) (more : rest ≠ [])
    {s : State} (takes : s.linkTakes = true)
    (whole : s.link.frame ++ rest = command :: high :: low :: count :: payload)
    (complete : (s.link.frame ++ rest).length = frameLength command count) :
    execAll (rest.map Instr.byteTaken) s = some (frameRequest (frameKind command) (frameArea command) (wordOf high low)
      (count.toNat + 1) (payloadWords payload) s) := by
  induction rest generalizing s with
  | nil => contradiction
  | cons b rest ih =>
    rw [List.map_cons, execAll_next (exec_byteTaken takes b)]
    by_cases last : rest = []
    · subst last
      rw [whole] at complete
      rw [whole, assemble, if_pos (by simpa using complete)]
      rfl
    · rw [List.append_cons] at whole complete
      rw [assemble_incomplete whole last complete,
        ih (s := s.joined (s.link.frame ++ [b])) last takes whole complete, frameRequest_joined]

/-- The words that the payload of a request has: as many as its count byte says in a WRITE, one in a CONTROL, an ENLIST
and an ACK, and none in any other (section 10.2). -/
def payloadCount (kind n : Nat) : Nat :=
  match kind with
  | 1 => n
  | 4 => 1
  | 5 => 1
  | 6 => 1
  | _ => 0

/-- The length of a frame is that of its four bytes and its payload (R163). -/
theorem frameLength_eq {command count : Byte} : frameLength command count =
    4 + 2 * payloadCount (frameKind command) (count.toNat + 1) := by
  unfold frameLength
  split <;> simp [payloadCount, *]

/-- A whole frame, taken byte by byte, brings its request (R163, R164). -/
theorem execAll_frame {s : State} (takes : s.linkTakes = true) (begins : s.link.frame = []) {kind n : Nat}
    (hkind : kind < 16) (area : BitVec 4) (index : Word) (h1 : 1 ≤ n) (h2 : n ≤ 256) {payload : List Word}
    (hpayload : payload.length = payloadCount kind n) :
    execAll ((frameBytes kind area.toNat index n payload).map Instr.byteTaken) s =
      some (frameRequest kind area.toNat index n payload s) := by
  obtain ⟨named, place⟩ := commandByte_fields hkind area.isLt
  have whole : s.link.frame ++ frameBytes kind area.toNat index n payload =
      toByte (kind * 16 + area.toNat) :: toByte (hi index) :: loByte index :: toByte (n - 1) :: wordsBytes payload := by
    rw [begins]
    rfl
  have complete : (s.link.frame ++ frameBytes kind area.toNat index n payload).length =
      frameLength (toByte (kind * 16 + area.toNat)) (toByte (n - 1)) := by
    rw [whole, frameLength_eq, named, countByte_toNat h1 h2, ← hpayload, ← wordsBytes_length]
    simp only [List.length_cons]
    omega
  have brought := execAll_restOfFrame _ (List.cons_ne_nil _ _) takes whole complete
  rwa [named, place, wordOf_wordBytes, countByte_toNat h1 h2, payloadWords_wordsBytes] at brought

end Sys2Proof.Machine

open Sys2Proof Sys2Proof.Machine

/-- Settles O38: the whole frame brings the WRITE that the command is. -/
theorem writeFrameBytesAreTheCommand : Obligations.WriteFrameBytesAreTheCommand :=
  fun _ area index _ takes begins h1 h2 => ⟨_, exec_write takes area index h1 h2,
    execAll_frame takes begins (by decide) area index h1 h2 rfl⟩

/-- Settles O39, kind by kind: the whole frame brings the request that the command is. -/
theorem shortFrameBytesAreTheCommand : Obligations.ShortFrameBytesAreTheCommand := by
  intro s area index w n takes begins h1 h2 same
  have brings {kind : Nat} {payload : List Word} {c : Instr} (hkind : kind < 16)
      (hpayload : payload.length = payloadCount kind n)
      (request : exec c s = .next (frameRequest kind area.toNat index n payload s)) : same kind payload c :=
    ⟨_, request, execAll_frame takes begins hkind area index h1 h2 hpayload⟩
  have control {code : Word} {c : Instr} (request : exec c s = .next (controlRequest code.toNat s)) :
      same 4 [code] c := brings (by decide) rfl request
  refine ⟨brings (by decide) rfl (exec_drain takes index h1 h2), control (exec_start takes), control (exec_pause takes),
    control (exec_stepRun takes), control (exec_resume takes), control (exec_abort takes),
    control (exec_stopAll takes), control (exec_clearResults takes), control (exec_reset takes),
    fun unknown => control ?_, brings (by decide) rfl (exec_enlist takes w), brings (by decide) rfl (exec_ack takes w),
    brings (by decide) rfl (exec_probe takes), fun kind unknown => ?_⟩
  · rw [exec_unknownRequestFrame takes]
    obtain ⟨k, code⟩ := Nat.exists_eq_add_of_le' unknown
    rw [code]
    rfl
  · rcases unknown with rfl | ⟨high, below⟩
    · exact brings (by decide) rfl (exec_unknownRequestFrame takes)
    · obtain ⟨k, rfl⟩ := Nat.exists_eq_add_of_le' high
      exact brings below rfl (exec_unknownRequestFrame takes)
end

section
/-! PROOFS. A step on a queue that is not empty: the command at its front. -/
open Sys2Proof Sys2Proof.Machine

/-- Settles O1: of the two cases of a step, an empty queue and one with a front, the second is at hand. -/
theorem stepRunsFrontCommand : Obligations.StepRunsFrontCommand := by
  intro s c rest front
  simp only [step, front]
end
